-- ==== Sys2Proof/Word.lean ====
section
/-! DEFINITION. The plain data of the block: bytes, the fields of a frame, the two devices, the reply pair and the
levels of the lever's input lines. Every value of the spec is unsigned (00_scope.md R10). -/

namespace Sys2Proof

/-- A byte: a command frame, a status byte, or one byte of a reply (R92). -/
abbrev Byte := BitVec 8

/-- The `CMD` field of a frame, 3 bits (R80). -/
abbrev Command := BitVec 3

/-- The `DATA` field of a frame, 4 bits (R80). -/
abbrev Data := BitVec 4

/-- A colour code, 3 bits; every one of 0..7 is a legal stored value (R25, R136). -/
abbrev Color := BitVec 3

/-- The 2-bit input pattern of the lever: bit 0 is "open asserted", bit 1 is "closed asserted" (R35, R170). -/
abbrev Pattern := BitVec 2

/-- A bus address. The source gives no width and no format, so the value is an identifier and nothing is computed
from it (R61). -/
abbrev BusAddress := Nat

/-- The two peripherals (R2, R236). -/
inductive Device where
  /-- The indicator peripheral. -/
  | ind
  /-- The lever peripheral. -/
  | lev
  deriving DecidableEq, Repr, Inhabited

/-- The two-byte reply of a transaction (R82): the status first, then its complement. -/
structure Reply where
  byte0 : Byte
  byte1 : Byte
  deriving DecidableEq, Repr, Inhabited

/-- The physical levels of the lever's two raw input lines, `true` for high; the lines are active-low (R39, R235). -/
structure Pins where
  openN : Bool
  closedN : Bool
  deriving DecidableEq, Repr, Inhabited

end Sys2Proof
end

