-- ==== Sys2Proof/Syntax.lean ====
section
/-! DEFINITION. The commands a device can be sent: one constructor of `Instr` for each row of spec/opcode_table.json
(the "instructions" of this block are command frames, 30_encoding.md), and the host's call `send`. The device is part
of the instruction because the bus address selects what a command code means (R83). -/

namespace Sys2Proof

/-- A command as a device executes it. Operands are the fields R84 to R86 give; where `DATA` is ignored it is kept, so
that no bit of a frame is lost between decoding and encoding. -/
inductive Instr where
  /-- `IND.RESET`, CMD 0 to the indicator: "reset-to-listening"; `DATA` is ignored (R131, R86). -/
  | indReset (data : Data)
  /-- `IND.GET`, CMD 1 to the indicator: "get-state"; `DATA` is ignored (R132, R86). -/
  | indGet (data : Data)
  /-- `IND.SET`, CMD 2 to the indicator: blink is `DATA[3]`, colour is `DATA[2:0]` (R133, R84). -/
  | indSet (blink : Bool) (color : Color)
  /-- `IND.RSVD3`, the reserved command code 3 on the indicator (R134, R87). -/
  | indRsvd3 (data : Data)
  /-- `IND.RSVD4`, the reserved command code 4 on the indicator (R134, R87). -/
  | indRsvd4 (data : Data)
  /-- `IND.RSVD5`, the reserved command code 5 on the indicator (R134, R87). -/
  | indRsvd5 (data : Data)
  /-- `IND.RSVD6`, the reserved command code 6 on the indicator (R134, R87). -/
  | indRsvd6 (data : Data)
  /-- `IND.RSVD7`, the reserved command code 7 on the indicator (R134, R87). -/
  | indRsvd7 (data : Data)
  /-- `LEV.RESET`, CMD 0 to the lever: "reset"; `DATA` is ignored (R163, R86). -/
  | levReset (data : Data)
  /-- `LEV.GET`, CMD 1 to the lever: "get-status"; `DATA` is ignored (R164, R86). -/
  | levGet (data : Data)
  /-- `LEV.SET`, CMD 2 to the lever: the value is `DATA[3:0]`, unsigned (R166, R85). -/
  | levSet (value : Data)
  /-- `LEV.RSVD3`, the reserved command code 3 on the lever (R167, R87). -/
  | levRsvd3 (data : Data)
  /-- `LEV.RSVD4`, the reserved command code 4 on the lever (R167, R87). -/
  | levRsvd4 (data : Data)
  /-- `LEV.RSVD5`, the reserved command code 5 on the lever (R167, R87). -/
  | levRsvd5 (data : Data)
  /-- `LEV.RSVD6`, the reserved command code 6 on the lever (R167, R87). -/
  | levRsvd6 (data : Data)
  /-- `LEV.RSVD7`, the reserved command code 7 on the lever (R167, R87). -/
  | levRsvd7 (data : Data)
  deriving DecidableEq, Repr, Inhabited

/-- A call of the host's entry point `send(command, data)` for the peripheral at one bus address (R200). The host's
arguments are plain numbers: that they fit 3 and 4 bits is what `send` checks first (R201). -/
structure Request where
  addr : BusAddress
  command : Nat
  data : Nat
  deriving DecidableEq, Repr, Inhabited

end Sys2Proof
end

