-- ==== Sys2Proof/WellFormed.lean ====
section
/-! DEFINITION. What is well formed. An instruction always is: as hardware the codec has a 3-bit command port and a
4-bit data port, so no out-of-range field can be written (R102). What can be ill formed are the numbers the host
hands to `send` (R201) and a bus address with no device behind it (R61, R63). -/

namespace Sys2Proof

/-- Every instruction is well formed: its fields have the widths of the codec's ports (R102), and every value of them
is a legal operand (R84 to R86) or is rejected when it is executed, not before (R165). -/
def Instr.wellFormed : Instr → Bool
  | .indReset _ | .indGet _ | .indSet _ _ => true
  | .indRsvd3 _ | .indRsvd4 _ | .indRsvd5 _ | .indRsvd6 _ | .indRsvd7 _ => true
  | .levReset _ | .levGet _ | .levSet _ => true
  | .levRsvd3 _ | .levRsvd4 _ | .levRsvd5 _ | .levRsvd6 _ | .levRsvd7 _ => true

/-- `command` fits 3 bits (R201). -/
def Request.commandFits (r : Request) : Bool := r.command ≤ 7

/-- `data` fits 4 bits (R201). -/
def Request.dataFits (r : Request) : Bool := r.data ≤ 15

/-- Both range checks of `send` (R201). -/
def Request.wellFormed (r : Request) : Bool := r.commandFits && r.dataFits

/-- The address is one of the two that have a device behind them (R61). -/
def BusAddress.wellFormed (a : BusAddress) : Bool := a == 0x20 || a == 0x24

end Sys2Proof
end

