-- ==== Sys2Proof/Config.lean ====
section
/-! DEFINITION. The implementation parameters the spec leaves OPEN (R8), as one record of plain data, and the free
values of the model: constants with no body, so that nothing can be proved of them but what their types say.
The tests of the spec give the parameters values per vector; the hardware's own are `Config.hardware`. -/

namespace Sys2Proof

/-- A number of ticks between 1 and 255, the range of `BLINK_THRESHOLD`, `DEBOUNCE_THRESHOLD` and the `n` of
`ATTN_HOLD` (R8). The defaults of the fields serve only to show that the type has an element. -/
structure Threshold where
  val : Byte := 1#8
  pos : val ≠ 0#8 := by decide
  deriving DecidableEq, Repr, Inhabited

/-- `MAX_ATTEMPTS`, an integer of at least 1 (R8). The defaults serve only to show that the type has an element. -/
structure AttemptBudget where
  val : Nat := 1
  pos : 0 < val := by decide
  deriving DecidableEq, Repr, Inhabited

/-- `ATTN_HOLD`: how an asserted attention line is released (R174). -/
inductive AttnHold where
  /-- The line stays asserted until LEV.RESET. -/
  | untilReset
  /-- The line is released by the n-th LEV tick after the tick that asserted it. -/
  | ticks (n : Threshold)
  deriving DecidableEq, Repr, Inhabited

/-- `IND_REDRIVE`: what enables the indicator's outputs again after IND.RESET (R8, R30). -/
inductive IndRedrive where
  | onSetState
  | onTick
  deriving DecidableEq, Repr, Inhabited

/-- The OPEN parameters of R8. `COLOR_PIN_MAP` is a table of eight rows, the levels of the output lines for each colour
code; the number of lines is open too. -/
structure Params where
  /-- `BLINK_THRESHOLD`, written `Tb`. -/
  blinkThreshold : Threshold
  /-- `DEBOUNCE_THRESHOLD`, written `Td`. -/
  debounceThreshold : Threshold
  attnHold : AttnHold
  indRedrive : IndRedrive
  indOutEnAtStart : Bool
  colorPinMap : Vector (List Bool) 8
  maxAttempts : AttemptBudget
  hostPrevalidateLeverSet : Bool
  deriving DecidableEq, Repr, Inhabited

/-- `IND_ADDR` (R8, R61). -/
def Config.indAddr : BusAddress := 0x20

/-- `LEV_ADDR` (R8, R61). -/
def Config.levAddr : BusAddress := 0x24

/-- The bits the bus flips in one transaction: of the command frame on its way to the device, and of the two reply bytes
on their way to the host. All zero is a clean transfer; nothing bounds the corruption (R209). -/
structure Noise where
  frame : Byte
  byte0 : Byte
  byte1 : Byte
  deriving DecidableEq, Repr, Inhabited

/-- An event: what the next atomic step is (R4, R14, R20). -/
inductive Event where
  /-- One tick of a device's periodic timer, `TICK dev` (R226, R93). -/
  | tick (dev : Device)
  /-- The input environment sets the lever's two raw lines, `PINS o, c` (R93, R39). -/
  | pins (openN closedN : Bool)
  /-- A transaction delivers one byte to a bus address, `RAW dev, b` (R62, R93). Any byte at any time (R208). -/
  | transaction (addr : BusAddress) (frame : Byte)
  /-- One turn of the single-threaded host (R212): it begins the call `req` when it has none, else it makes one attempt
  of the call it is in, under the corruption `noise`. -/
  | host (req : Request) (noise : Noise)
  /-- A device loses power and powers up again (R238). -/
  | powerCycle (dev : Device)
  deriving DecidableEq, Repr, Inhabited

/-- The parameters of the hardware at hand: OPEN in the spec, so free here (R8). -/
opaque Config.hardware : Params

/-- The levels of the lever's input lines at power-up: the environment's, so free (R39). -/
opaque Config.pinsAtPowerUp : Pins

/-- The environment's n-th choice of the next event, where no event has been laid down: free, so that a claim holds for
every interleaving (R68, R231). -/
opaque Config.environment : Nat → Event

end Sys2Proof
end

