-- ==== Sys2Proof/Decode.lean ====
section
/-! DEFINITION. The frame codec (40_frame_codec.md): parity, encode, decode, pack and unpack, pure functions without
state (R99, R112); the map from a device and a decoded frame to its instruction (R83) and back; and the reading of a
word of spec/opcode_table.json. -/

namespace Sys2Proof

/-- The two outcomes of a codec operation that fails (R12, R220). -/
inductive CodecError where
  /-- Bit 7 of a frame disagrees with the recomputed parity; raised by `decodeFrame` (R103). -/
  | parityError
  /-- The check byte is not the complement of the status byte; raised by `unpackResponse` (R106). -/
  | integrityError
  deriving DecidableEq, Repr, Inhabited

/-- The number of 1 bits of the low seven bits of a frame (R10). -/
def popcount (v : BitVec 7) : Nat :=
  (v.getLsbD 0).toNat + (v.getLsbD 1).toNat + (v.getLsbD 2).toNat + (v.getLsbD 3).toNat
    + (v.getLsbD 4).toNat + (v.getLsbD 5).toNat + (v.getLsbD 6).toNat

/-- `parity(v) = popcount(v[6:0]) mod 2`, `true` for 1 (R100). -/
def parity (v : BitVec 7) : Bool := popcount v % 2 == 1

/-- `encode(command, data)` (R101): the packed value in the low seven bits, its parity in bit 7. -/
def encodeFrame (command : Command) (data : Data) : Byte :=
  let v : Byte := command.setWidth 8 <<< 4 ||| data.setWidth 8
  (BitVec.ofBool (parity (v.extractLsb' 0 7))).setWidth 8 <<< 7 ||| v

/-- The `CMD` field of a received byte, `b[6:4]` (R81). -/
def frameCommand (b : Byte) : Command := b.extractLsb' 4 3

/-- The `DATA` field of a received byte, `b[3:0]` (R81). -/
def frameData (b : Byte) : Data := b.extractLsb' 0 4

/-- The byte is a legal frame: bit 7 is the parity of the low seven bits (R88). -/
def legalFrame (b : Byte) : Bool := b.getLsbD 7 == parity (b.extractLsb' 0 7)

/-- `decode(byte)` (R103). -/
def decodeFrame (b : Byte) : Except CodecError (Command × Data) :=
  if legalFrame b then .ok (frameCommand b, frameData b) else .error .parityError

/-- `packResponse(status)`, written `pack` (R105). -/
def packResponse (status : Byte) : Reply := ⟨status, ~~~status⟩

/-- `unpackResponse(statusByte, checkByte)` (R106). -/
def unpackResponse (r : Reply) : Except CodecError Byte :=
  if r.byte1 = ~~~r.byte0 then .ok r.byte0 else .error .integrityError

/-- The bus address of a device (R61). -/
def Device.address : Device → BusAddress
  | .ind => Config.indAddr
  | .lev => Config.levAddr

/-- The device behind a bus address, where there is one (R61, R63). -/
def Device.ofAddress (a : BusAddress) : Option Device :=
  if a = Config.indAddr then some .ind
  else if a = Config.levAddr then some .lev
  else none

/-- The blink operand of IND.SET, `DATA[3]` (R84). -/
def dataBlink (d : Data) : Bool := d.getLsbD 3

/-- The colour operand of IND.SET, `DATA[2:0]` (R84). -/
def dataColor (d : Data) : Color := d.extractLsb' 0 3

/-- The `DATA` field that carries a blink flag and a colour (R84, R93): `(b << 3) + c`. -/
def dataOfSet (blink : Bool) (color : Color) : Data :=
  (BitVec.ofBool blink).setWidth 4 <<< 3 ||| color.setWidth 4

/-- The command map (R83): the instruction a command code and a data field name on a device. The last row is the code 7,
since a command code is below 8. -/
def instrOf (dev : Device) (c : Command) (d : Data) : Instr :=
  match dev, c.toNat with
  | .ind, 0 => .indReset d
  | .ind, 1 => .indGet d
  | .ind, 2 => .indSet (dataBlink d) (dataColor d)
  | .ind, 3 => .indRsvd3 d
  | .ind, 4 => .indRsvd4 d
  | .ind, 5 => .indRsvd5 d
  | .ind, 6 => .indRsvd6 d
  | .ind, _ => .indRsvd7 d
  | .lev, 0 => .levReset d
  | .lev, 1 => .levGet d
  | .lev, 2 => .levSet d
  | .lev, 3 => .levRsvd3 d
  | .lev, 4 => .levRsvd4 d
  | .lev, 5 => .levRsvd5 d
  | .lev, 6 => .levRsvd6 d
  | .lev, _ => .levRsvd7 d

/-- The instruction a received byte names on a device, or the parity error: parity first, then the command code (R89,
R137, R161). Total on every byte. -/
def decodeInstr (dev : Device) (b : Byte) : Except CodecError Instr :=
  match decodeFrame b with
  | .error e => .error e
  | .ok (c, d) => .ok (instrOf dev c d)

/-- The device an instruction is a command of (R83). -/
def Instr.device : Instr → Device
  | .indReset _ | .indGet _ | .indSet _ _ => .ind
  | .indRsvd3 _ | .indRsvd4 _ | .indRsvd5 _ | .indRsvd6 _ | .indRsvd7 _ => .ind
  | .levReset _ | .levGet _ | .levSet _ => .lev
  | .levRsvd3 _ | .levRsvd4 _ | .levRsvd5 _ | .levRsvd6 _ | .levRsvd7 _ => .lev

/-- The command code of an instruction (R83). -/
def Instr.command : Instr → Command
  | .indReset _ | .levReset _ => 0#3
  | .indGet _ | .levGet _ => 1#3
  | .indSet _ _ | .levSet _ => 2#3
  | .indRsvd3 _ | .levRsvd3 _ => 3#3
  | .indRsvd4 _ | .levRsvd4 _ => 4#3
  | .indRsvd5 _ | .levRsvd5 _ => 5#3
  | .indRsvd6 _ | .levRsvd6 _ => 6#3
  | .indRsvd7 _ | .levRsvd7 _ => 7#3

/-- The data field of an instruction (R84 to R86). -/
def Instr.dataField : Instr → Data
  | .indSet blink color => dataOfSet blink color
  | .indReset d | .indGet d | .levReset d | .levGet d | .levSet d => d
  | .indRsvd3 d | .indRsvd4 d | .indRsvd5 d | .indRsvd6 d | .indRsvd7 d => d
  | .levRsvd3 d | .levRsvd4 d | .levRsvd5 d | .levRsvd6 d | .levRsvd7 d => d

/-- The one frame byte of an instruction (R94); it is sent to the address of the instruction's device. -/
def encode (i : Instr) : Byte := encodeFrame i.command i.dataField

/-- The address a table word of `nbits` bits is sent to. The table's row is the frame byte alone, which does not name the
device: a word of one byte is read as sent to the indicator, and a wider word carries the bus address in its second byte
(bits 15..8). -/
def tableAddress (nbits w : Nat) : BusAddress :=
  if nbits ≤ 8 then Config.indAddr else w / 256 % 256

/-- The frame byte of a table word: its first byte. -/
def tableFrame (w : Nat) : Byte := BitVec.ofNat 8 w

/-- The instruction the decoder reads from a table word: none where no device is addressed and none where the parity
bit is wrong (R103). -/
def decodeTableWord (nbits w : Nat) : Option Instr :=
  match Device.ofAddress (tableAddress nbits w) with
  | none => none
  | some dev => (decodeInstr dev (tableFrame w)).toOption

end Sys2Proof
end

