-- ==== Sys2Proof/Machine/Registers.lean ====
section
/-! DEFINITION. The registers of the two devices, exactly those of 10_state.md R24 and R32, and their power-up values
(R250). The devices share no state (R42), so each has a record of its own. -/

namespace Sys2Proof.Machine

/-- The state elements of the indicator (R24). -/
structure IndicatorState where
  /-- `ind_color`, 3 bits (R25). -/
  color : Color
  /-- `ind_blink`, 1 bit (R26). -/
  blink : Bool
  /-- `ind_phase_on`, 1 bit (R27). -/
  phaseOn : Bool
  /-- `ind_blink_cnt`, 8 bits (R28). -/
  blinkCnt : Byte
  /-- `ind_led_out`, 3 bits (R29). -/
  ledOut : Color
  /-- `ind_out_en`, 1 bit (R30). -/
  outEn : Bool
  deriving DecidableEq, Repr, Inhabited

/-- The committed tri-state status of the lever (R33). It is never 0 (R34): no constructor has that code. -/
inductive LeverStatus where
  | unknown
  | closed
  | opened
  deriving DecidableEq, Repr, Inhabited

/-- The state elements of the lever (R32). -/
structure LeverState where
  /-- `lev_status`, 2 bits, 1 to 3 (R33). -/
  status : LeverStatus
  /-- `lev_prev`, 2 bits, the input latch (R35). -/
  prev : Pattern
  /-- `lev_cnt`, 8 bits, the debounce counter (R36). -/
  cnt : Byte
  /-- `lev_attn`, 1 bit, the attention request (R37). -/
  attn : Bool
  /-- `lev_attn_timer`, 8 bits, used only under `ATTN_HOLD = Ticks(n)` (R38). -/
  attnTimer : Byte
  deriving DecidableEq, Repr, Inhabited

/-- The indicator at power-up (R250, R24). -/
def IndicatorState.powerUp (p : Params) : IndicatorState where
  color := 0#3
  blink := false
  phaseOn := true
  blinkCnt := 0#8
  ledOut := 0#3
  outEn := p.indOutEnAtStart

/-- The lever at power-up (R250, R32). -/
def LeverState.powerUp (p : Params) : LeverState where
  status := .unknown
  prev := 0#2
  cnt := p.debounceThreshold.val
  attn := false
  attnTimer := 0#8

end Sys2Proof.Machine
end

