-- ==== Sys2Proof/Machine/State.lean ====
section
/-! DEFINITION. The state of the whole block: the two devices, the parameters of the hardware, the lever's input lines,
the host agent, and the events to come. There is no register file, no program counter and no memory (R20, R21, R60). -/

namespace Sys2Proof.Machine

/-- A device has no fault: it "never halts on a bad frame", and nothing is fatal (R223, R232). The type has no
constructor, so that no step of this model can answer with a fault. -/
inductive Fault where
  deriving DecidableEq, Repr

/-- Why the model gives a step no meaning. -/
inductive Refusal where
  /-- Raised by `exec` for an instruction without a meaning. No arm raises it now. Safe: the run stops. -/
  | notModelled (mnemonic : String)
  /-- Raised by `transact` for a transaction to an address with no device behind it, which the spec does not model
  (R63, 93_implementation_defined.md I23). Safe: the run stops, and no claim is made of what the host reads. -/
  | noDeviceAtAddress (addr : BusAddress)
  deriving DecidableEq, Repr

/-- What a call of `send` returned (R12, R206): never an integrity error. -/
inductive SendResult where
  /-- The status of the first accepted reply (R203). -/
  | ok (status : Byte)
  /-- A range check failed and no transaction was issued (R201, R207). -/
  | invalidArgument
  /-- The retry budget is spent and no reply was accepted (R204). -/
  | exhausted
  deriving DecidableEq, Repr

/-- The call of `send` the host is in (R202). -/
structure HostCall where
  addr : BusAddress
  /-- `frame = encode(command, data)`, the same at every attempt. -/
  frame : Byte
  /-- `attemptsRemaining`, the `RetryBudget` of the source, made anew for each call. -/
  attemptsRemaining : Nat
  deriving DecidableEq, Repr

/-- The host agent: single-threaded, so in at most one call (R212). -/
structure HostState where
  /-- The call in progress, if any. -/
  call : Option HostCall
  /-- How many transactions the latest call has issued; R204 counts them. -/
  issued : Nat
  /-- What the latest call returned; none before the first call and while a call is in progress. -/
  result : Option SendResult
  deriving DecidableEq, Repr

/-- The state. `params` is fixed in the hardware and no step writes it (R254). `pins` and `host` belong to the
environment (R14, R39). `reply`, `schedule` and `draws` are the model's own: the reply the latest step produced (no
step reads it as device state, R22), the events laid down for the steps to come in the order they are served (R68), and
how many events the environment has chosen freely. -/
structure State where
  params : Params
  ind : IndicatorState
  lev : LeverState
  pins : Pins
  host : HostState
  reply : Option Reply
  schedule : List Event
  draws : Nat
  deriving DecidableEq, Repr

/-- The machine after power-up of hardware with the parameters `p`, its input lines at `pins` (R250): no call in
progress, nothing laid down. -/
def State.powerUp (p : Params) (pins : Pins) : State where
  params := p
  ind := IndicatorState.powerUp p
  lev := LeverState.powerUp p
  pins := pins
  host := { call := none, issued := 0, result := none }
  reply := none
  schedule := []
  draws := 0

/-- The machine right after reset. Power-up is the only reset of device state (R250, R252). -/
def State.reset : State := State.powerUp Config.hardware Config.pinsAtPowerUp

end Sys2Proof.Machine
end

