-- ==== Sys2Proof/Machine/Ops.lean ====
section
/-! DEFINITION. The named operations over the state: the writes of a device's registers, of the lines and of the host,
the reply of a transaction, the frame that is not executed, and power loss. All writes of a step land together, since a
step is one function of the state before it (R11, R67). The block has no trap and so no trap entry and no return from
one (R232); what takes their place is `notExecuted`, the one outcome of every frame a device does not execute (R222). -/

namespace Sys2Proof.Machine

/-- The outcome of a step of this machine. -/
abbrev Outcome := Host.Outcome State Fault Refusal

/-- `reply <- pack(status)` (R11, R105). -/
def State.withReply (s : State) (r : Reply) : State := { s with reply := some r }

/-- No reply: what a step leaves that is no transaction (R22). -/
def State.clearReply (s : State) : State := { s with reply := none }

/-- Write the indicator's registers. -/
def State.setInd (s : State) (d : IndicatorState) : State := { s with ind := d }

/-- Write the lever's registers. -/
def State.setLev (s : State) (d : LeverState) : State := { s with lev := d }

/-- Set the levels of the lever's raw input lines (R39). -/
def State.setPins (s : State) (p : Pins) : State := { s with pins := p }

/-- Write the host agent's state. -/
def State.setHost (s : State) (h : HostState) : State := { s with host := h }

/-- Lay down the event of the next step before those already laid down. -/
def State.schedulePush (s : State) (e : Event) : State := { s with schedule := e :: s.schedule }

/-- The event of this step: the first that is laid down, else the environment's free choice (R68, R231); and the state
without it. -/
def State.takeEvent (s : State) : Event × State :=
  match s.schedule with
  | e :: rest => (e, { s with schedule := rest })
  | [] => (Config.environment s.draws, { s with draws := s.draws + 1 })

/-- The indicator's status byte: marker bit 7, blink in bit 3, colour in bits 2..0 (R130). -/
def indStatusByte (d : IndicatorState) : Byte :=
  0x80#8 ||| ((BitVec.ofBool d.blink).setWidth 8 <<< 3) ||| d.color.setWidth 8

/-- The code of a lever status (R33). -/
def LeverStatus.code : LeverStatus → BitVec 2
  | .unknown => 1#2
  | .closed => 2#2
  | .opened => 3#2

/-- The lever's status byte (R160). -/
def levStatusByte (d : LeverState) : Byte := d.status.code.setWidth 8

/-- The command was executed: the step ends with the reply `pack(status)` (R62, R105). -/
def executed (status : Byte) (s : State) : Outcome := .next (s.withReply (packResponse status))

/-- The frame is not executed: no state changes and the reply is `pack(0x00)` (R222, R104, R134, R167). -/
def notExecuted (s : State) : Outcome := executed 0x00#8 s

/-- A device loses power and powers up again: all its state is lost and takes its power-up values (R238, R250). The
input lines and the host are not the device's. -/
def powerCycle (dev : Device) (s : State) : State :=
  match dev with
  | .ind => s.setInd (IndicatorState.powerUp s.params)
  | .lev => s.setLev (LeverState.powerUp s.params)

end Sys2Proof.Machine
end

