-- ==== Sys2Proof/Machine/Operands.lean ====
section
/-! DEFINITION. How operands and inputs become values: the operand of LEV.SET (R85, R165), the sample of the lever's
input lines (R170), and the status a pattern stands for (R172). The operands of IND.SET are pulled out when a frame is
decoded (R84). -/

namespace Sys2Proof.Machine

/-- The status LEV.SET's value names, for exactly the accepted values 1, 2 and 3 (R165, R166). -/
def statusOfValue (value : Data) : Option LeverStatus :=
  if value = 1#4 then some .unknown
  else if value = 2#4 then some .closed
  else if value = 3#4 then some .opened
  else none

/-- The pattern of the two active-low lines: bit 0 open asserted, bit 1 closed asserted (R170). -/
def samplePins (p : Pins) : Pattern :=
  (BitVec.ofBool (!p.closedN)).setWidth 2 <<< 1 ||| (BitVec.ofBool (!p.openN)).setWidth 2

/-- The status a clean pattern commits: Open for 0b01, Closed for 0b10; the patterns 0b00 and 0b11 commit nothing (R172,
R175, R176). -/
def statusOfPattern (s : Pattern) : Option LeverStatus :=
  if s = 0b01#2 then some .opened
  else if s = 0b10#2 then some .closed
  else none

end Sys2Proof.Machine
end

