-- ==== Sys2Proof/Machine/Flags.lean ====
section
/-! DEFINITION. The block has no condition codes (R41). Its one-bit elements that more than one step writes are the
drive enable of the indicator and the attention request of the lever; their rules stand here, and what the output lines
show of them. -/

namespace Sys2Proof.Machine

/-- The drive enable after an IND.SET: set under `OnSetState`, else as it was (R133, R30). -/
def outEnAfterSet (p : Params) (outEn : Bool) : Bool :=
  match p.indRedrive with
  | .onSetState => true
  | .onTick => outEn

/-- The drive enable after an indicator tick: set under `OnTick`, else as it was (R140, R30). -/
def outEnAfterTick (p : Params) (outEn : Bool) : Bool :=
  match p.indRedrive with
  | .onSetState => outEn
  | .onTick => true

/-- The attention hold countdown, part (1) of a lever tick (R171): under `Ticks(n)` an asserted line's timer goes down by
one, and the line is released when it reaches zero. -/
def attnCountdown (h : AttnHold) (d : LeverState) : LeverState :=
  match h with
  | .untilReset => d
  | .ticks _ =>
    if d.attn then
      let t := d.attnTimer - 1#8
      { d with attn := t != 0#8, attnTimer := t }
    else d

/-- Assert the attention line (R172, R173); under `Ticks(n)` its hold time starts again at n. -/
def attnAssert (h : AttnHold) (d : LeverState) : LeverState :=
  match h with
  | .untilReset => { d with attn := true }
  | .ticks n => { d with attn := true, attnTimer := n.val }

/-- Release the attention line, in both modes (R163, R174). -/
def attnRelease (d : LeverState) : LeverState := { d with attn := false, attnTimer := 0#8 }

/-- What the indicator's output line group shows: levels, or nothing driven (R31). -/
inductive IndLines where
  | highZ
  | driven (levels : List Bool)
  deriving DecidableEq, Repr

/-- What the attention line shows (R40). -/
inductive AttnLine where
  | highZ
  | driveLow
  deriving DecidableEq, Repr

/-- `COLOR_PIN_MAP` of a colour code (R31). -/
def colorPins (p : Params) (c : Color) : List Bool := p.colorPinMap.get c.toFin

/-- The indicator's output lines, a function of the state (R31). -/
def indLines (p : Params) (d : IndicatorState) : IndLines :=
  if d.outEn then .driven (colorPins p d.ledOut) else .highZ

/-- The attention line, a function of the state (R40). -/
def attnLine (d : LeverState) : AttnLine := if d.attn then .driveLow else .highZ

/-- What is seen of a state after a step (R263): the reply pair of a transaction and the levels of the output lines. -/
structure Observation where
  reply : Option Reply
  indLines : IndLines
  attnLine : AttnLine
  deriving DecidableEq, Repr

/-- The observation of a state (R263). -/
def State.observe (s : State) : Observation where
  reply := s.reply
  indLines := Sys2Proof.Machine.indLines s.params s.ind
  attnLine := Sys2Proof.Machine.attnLine s.lev

end Sys2Proof.Machine
end

