-- ==== Sys2Proof/Machine/Indicator.lean ====
section
/-! DEFINITION. The indicator state machine (41_indicator.md): its three commands, its reserved command codes and its
tick. -/

namespace Sys2Proof.Machine

/-- IND.RESET (R131): the output lines go to the high-impedance "listening" mode; nothing else is written. -/
def execIndReset (_data : Data) (s : State) : Outcome :=
  executed (indStatusByte s.ind) (s.setInd { s.ind with outEn := false })

/-- IND.GET (R132): the reply reports the stored colour and blink flag; nothing is written. -/
def execIndGet (_data : Data) (s : State) : Outcome := executed (indStatusByte s.ind) s

/-- The registers IND.SET writes, in one step (R133, R67). -/
def indSet (p : Params) (blink : Bool) (color : Color) (d : IndicatorState) : IndicatorState :=
  { d with color := color, blink := blink, outEn := outEnAfterSet p d.outEn }

/-- IND.SET (R133): every colour code is accepted (R136); the reply is the status byte after the write. -/
def execIndSet (blink : Bool) (color : Color) (s : State) : Outcome :=
  let d := indSet s.params blink color s.ind
  executed (indStatusByte d) (s.setInd d)

/-- The reserved command code 3 on the indicator (R134). -/
def execIndRsvd3 (_data : Data) (s : State) : Outcome := notExecuted s

/-- The reserved command code 4 on the indicator (R134). -/
def execIndRsvd4 (_data : Data) (s : State) : Outcome := notExecuted s

/-- The reserved command code 5 on the indicator (R134). -/
def execIndRsvd5 (_data : Data) (s : State) : Outcome := notExecuted s

/-- The reserved command code 6 on the indicator (R134). -/
def execIndRsvd6 (_data : Data) (s : State) : Outcome := notExecuted s

/-- The reserved command code 7 on the indicator (R134). -/
def execIndRsvd7 (_data : Data) (s : State) : Outcome := notExecuted s

/-- The blink timer crosses its threshold at this tick: `c1 >= Tb` (R140). -/
def blinkWraps (p : Params) (d : IndicatorState) : Bool :=
  decide (p.blinkThreshold.val.toNat ≤ d.blinkCnt.toNat + 1)

/-- The indicator's registers after one tick (R140). The timer runs whether or not blink is enabled (R141), and the output
is recomputed with the phase after this tick's toggle. -/
def indTick (p : Params) (d : IndicatorState) : IndicatorState :=
  let wraps := blinkWraps p d
  let ph := if wraps then !d.phaseOn else d.phaseOn
  { d with
    blinkCnt := if wraps then 0#8 else d.blinkCnt + 1#8
    phaseOn := ph
    ledOut := if d.blink && !ph then 0#3 else d.color
    outEn := outEnAfterTick p d.outEn }

end Sys2Proof.Machine
end

