-- ==== Sys2Proof/Machine/Lever.lean ====
section
/-! DEFINITION. The lever state machine (42_lever.md): its three commands, its reserved command codes and its tick. -/

namespace Sys2Proof.Machine

/-- LEV.RESET (R163): the attention line is released; nothing else is written. -/
def execLevReset (_data : Data) (s : State) : Outcome :=
  executed (levStatusByte s.lev) (s.setLev (attnRelease s.lev))

/-- LEV.GET (R164): the reply reports the committed status; nothing is written. -/
def execLevGet (_data : Data) (s : State) : Outcome := executed (levStatusByte s.lev) s

/-- LEV.SET (R166): an accepted value is written to the status and no attention pulse follows (R168); any other value is
rejected without a change of state (R165). -/
def execLevSet (value : Data) (s : State) : Outcome :=
  match statusOfValue value with
  | some st =>
    let d := { s.lev with status := st }
    executed (levStatusByte d) (s.setLev d)
  | none => notExecuted s

/-- The reserved command code 3 on the lever (R167). -/
def execLevRsvd3 (_data : Data) (s : State) : Outcome := notExecuted s

/-- The reserved command code 4 on the lever (R167). -/
def execLevRsvd4 (_data : Data) (s : State) : Outcome := notExecuted s

/-- The reserved command code 5 on the lever (R167). -/
def execLevRsvd5 (_data : Data) (s : State) : Outcome := notExecuted s

/-- The reserved command code 6 on the lever (R167). -/
def execLevRsvd6 (_data : Data) (s : State) : Outcome := notExecuted s

/-- The reserved command code 7 on the lever (R167). -/
def execLevRsvd7 (_data : Data) (s : State) : Outcome := notExecuted s

/-- `commit(s)` (R172): a clean pattern whose status differs from the one held is written and asserts attention; a pattern
that is not clean, or the status already held, changes nothing. -/
def commit (h : AttnHold) (s : Pattern) (d : LeverState) : LeverState :=
  match statusOfPattern s with
  | some st => if st = d.status then d else attnAssert h { d with status := st }
  | none => d

/-- The input latch and the debounce counter, part (3) of a lever tick (R171): a changed pattern is latched and starts
the count again; a held pattern counts down, and at zero the counter is reloaded and the pattern committed. -/
def debounce (p : Params) (s : Pattern) (d : LeverState) : LeverState :=
  if s = d.prev then
    let k := d.cnt - 1#8
    if k = 0#8 then commit p.attnHold s { d with cnt := p.debounceThreshold.val }
    else { d with cnt := k }
  else { d with prev := s, cnt := p.debounceThreshold.val }

/-- The lever's registers after one tick that finds the input lines at `pins` (R171): the attention hold countdown, the
sample, then the latch, the counter and the commit. -/
def levTick (p : Params) (pins : Pins) (d : LeverState) : LeverState :=
  debounce p (samplePins pins) (attnCountdown p.attnHold d)

end Sys2Proof.Machine
end

