-- ==== Sys2Proof/Machine/Dispatch.lean ====
section
/-! DEFINITION. One arm for each instruction, each a direct call of its meaning. -/

namespace Sys2Proof.Machine

/-- What a device does with a command it has decoded (R137, R161). -/
def exec (i : Instr) (s : State) : Host.Outcome State Fault Refusal :=
  match i with
  | .indReset data => Sys2Proof.Machine.execIndReset data s
  | .indGet data => Sys2Proof.Machine.execIndGet data s
  | .indSet blink color => Sys2Proof.Machine.execIndSet blink color s
  | .indRsvd3 data => Sys2Proof.Machine.execIndRsvd3 data s
  | .indRsvd4 data => Sys2Proof.Machine.execIndRsvd4 data s
  | .indRsvd5 data => Sys2Proof.Machine.execIndRsvd5 data s
  | .indRsvd6 data => Sys2Proof.Machine.execIndRsvd6 data s
  | .indRsvd7 data => Sys2Proof.Machine.execIndRsvd7 data s
  | .levReset data => Sys2Proof.Machine.execLevReset data s
  | .levGet data => Sys2Proof.Machine.execLevGet data s
  | .levSet value => Sys2Proof.Machine.execLevSet value s
  | .levRsvd3 data => Sys2Proof.Machine.execLevRsvd3 data s
  | .levRsvd4 data => Sys2Proof.Machine.execLevRsvd4 data s
  | .levRsvd5 data => Sys2Proof.Machine.execLevRsvd5 data s
  | .levRsvd6 data => Sys2Proof.Machine.execLevRsvd6 data s
  | .levRsvd7 data => Sys2Proof.Machine.execLevRsvd7 data s

end Sys2Proof.Machine
end

