-- ==== Sys2Proof/Machine/Bus.lean ====
section
/-! DEFINITION. The bus as the devices see it (20_memory.md): one transaction is one atomic step of the frame receiver of
the device it is addressed to (R62, R63). -/

namespace Sys2Proof.Machine

/-- The frame step of a device (R137, R161): decode, then execute the command or refuse the frame. -/
def serveFrame (dev : Device) (frame : Byte) (s : State) : Outcome :=
  match decodeInstr dev frame with
  | .error _ => notExecuted s
  | .ok i => exec i s

/-- `BusTransaction(addr, frame)` (R62): the device at the address serves the frame and no other device sees it (R63). A
transaction to an address with no device behind it is not modelled (R63). -/
def transact (addr : BusAddress) (frame : Byte) (s : State) : Outcome :=
  match Device.ofAddress addr with
  | none => .refused (.noDeviceAtAddress addr)
  | some dev => serveFrame dev frame s

end Sys2Proof.Machine
end

