-- ==== Sys2Proof/Machine/Transport.lean ====
section
/-! DEFINITION. The host retry transport (45_host_transport.md), the environment the devices run in: `send`, cut into
turns. A turn begins a call or makes one attempt of it, so that ticks and other events may fall between two attempts
(R73). -/

namespace Sys2Proof.Machine

/-- The host refuses the call before the bus: a width check fails (R201), or the host checks the values of a lever
set-status itself and this one is outside 1, 2 and 3 (R202, R207). -/
def sendRefuses (p : Params) (r : Request) : Bool :=
  !r.wellFormed
    || (p.hostPrevalidateLeverSet && r.addr == Config.levAddr && r.command == 2
      && !(r.data == 1 || r.data == 2 || r.data == 3))

/-- The host after the first lines of `send` (R202): the call has failed, or it is in progress with a fresh budget. -/
def beginCall (p : Params) (r : Request) : HostState :=
  if sendRefuses p r then { call := none, issued := 0, result := some .invalidArgument }
  else
    { call := some
        { addr := r.addr
          frame := encodeFrame (BitVec.ofNat 3 r.command) (BitVec.ofNat 4 r.data)
          attemptsRemaining := p.maxAttempts.val }
      issued := 0
      result := none }

/-- The pair the host reads: the device's reply with the bits the bus flips (R209). -/
def corruptReply (n : Noise) (r : Reply) : Reply := ⟨r.byte0 ^^^ n.byte0, r.byte1 ^^^ n.byte1⟩

/-- The status of an accepted reply: it passes the integrity check and is not the zero sentinel (R203). -/
def acceptReply (r : Reply) : Option Byte :=
  match unpackResponse r with
  | .error _ => none
  | .ok st => if st = 0x00#8 then none else some st

/-- The host after an attempt of the call `c` that has `left` attempts left and read `read` (R202 to R204). -/
def afterAttempt (c : HostCall) (left issued : Nat) (read : Option Reply) : HostState :=
  match read.bind acceptReply with
  | some st => { call := none, issued := issued + 1, result := some (.ok st) }
  | none =>
    if left = 0 then { call := none, issued := issued + 1, result := some .exhausted }
    else { call := some { c with attemptsRemaining := left }, issued := issued + 1, result := none }

/-- One pass through the retry loop of `send` (R202): the frame goes over the bus, possibly altered, and the pair that
comes back, possibly altered, ends the call or not. -/
def attempt (c : HostCall) (n : Noise) (s : State) : Outcome :=
  match c.attemptsRemaining with
  | 0 => .next (s.setHost { s.host with call := none, result := some .exhausted })
  | left + 1 =>
    match transact c.addr (c.frame ^^^ n.frame) s with
    | .next t => .next (t.setHost (afterAttempt c left s.host.issued (t.reply.map (corruptReply n))))
    | .fault f => .fault f
    | .refused r => .refused r

/-- One turn of the host (R212): a call in progress blocks it, so it begins a new one only when it is in none. -/
def hostTurn (r : Request) (n : Noise) (s : State) : Outcome :=
  match s.host.call with
  | none => .next (s.setHost (beginCall s.params r))
  | some c => attempt c n s

end Sys2Proof.Machine
end

