-- ==== Sys2Proof/Machine/Events.lean ====
section
/-! DEFINITION. What each event does: the tick of a device (R226), a change of the input lines (R39), a transaction
(R62), a turn of the host (R212), and power loss (R238). Each is one atomic step (R4, R66). -/

namespace Sys2Proof.Machine

/-- One tick step of a device (R140, R171); the other device's state is not touched (R42). -/
def tickDevice (dev : Device) (s : State) : State :=
  match dev with
  | .ind => s.setInd (indTick s.params s.ind)
  | .lev => s.setLev (levTick s.params s.pins s.lev)

/-- The step an event is. -/
def perform (e : Event) (s : State) : Outcome :=
  match e with
  | .tick dev => .next (tickDevice dev s)
  | .pins openN closedN => .next (s.setPins ⟨openN, closedN⟩)
  | .transaction addr frame => transact addr frame s
  | .host req noise => hostTurn req noise s
  | .powerCycle dev => .next (powerCycle dev s)

/-- The next step: the event is taken, no reply is left from the step before (R22), and the event is performed. -/
def stepOnce (s : State) : Outcome := perform s.takeEvent.1 s.takeEvent.2.clearReply

/-- The state in which the very next step delivers a table word's frame to the device it is addressed to. -/
def deliverTableWord (s : State) (nbits w : Nat) : State :=
  s.schedulePush (.transaction (tableAddress nbits w) (tableFrame w))

end Sys2Proof.Machine
end

