-- ==== Sys2Proof/Machine/Step.lean ====
section
/-! DEFINITION. One step of the block: the next event takes the place of the next instruction (R20). -/

namespace Sys2Proof.Machine

/-- One atomic step (R4). -/
def step (s : State) : Host.Outcome State Fault Refusal := stepOnce s

/-- `s` with an instruction word of spec/opcode_table.json where the step takes its next one: its frame is the event of the
very next step, a transaction to the device the word is addressed to. -/
def State.withFetchWord (s : State) (nbits w : Nat) : State := deliverTableWord s nbits w

end Sys2Proof.Machine
end

