-- ==== Sys2Proof/Safety.lean ====
section
/-! DEFINITION. The words claims use: what a legal state is (the "legal values" of 10_state.md R24 and R32), which frame
a step delivers, and what a run over given events is. -/

namespace Sys2Proof.Machine

/-- The blink counter holds a value in 0..Tb-1 between steps (R28). -/
def indLegal (p : Params) (d : IndicatorState) : Bool :=
  decide (d.blinkCnt.toNat < p.blinkThreshold.val.toNat)

/-- The attention timer: 0 under `UntilReset` (R38); under `Ticks(n)` it is in 1..n while the line is asserted and 0
while it is released (R171 to R174). -/
def attnLegal (h : AttnHold) (d : LeverState) : Bool :=
  match h with
  | .untilReset => d.attnTimer == 0#8
  | .ticks n =>
    if d.attn then decide (1 ≤ d.attnTimer.toNat ∧ d.attnTimer.toNat ≤ n.val.toNat) else d.attnTimer == 0#8

/-- The debounce counter holds 1..Td between steps (R36), and the attention timer is legal. -/
def levLegal (p : Params) (d : LeverState) : Bool :=
  decide (1 ≤ d.cnt.toNat ∧ d.cnt.toNat ≤ p.debounceThreshold.val.toNat) && attnLegal p.attnHold d

/-- A call in progress carries a legal frame, has an attempt left, has issued what its budget has lost, and has not
returned (R202, R204). -/
def hostLegal (p : Params) (h : HostState) : Bool :=
  match h.call with
  | none => decide (h.issued ≤ p.maxAttempts.val)
  | some c =>
    legalFrame c.frame && decide (1 ≤ c.attemptsRemaining)
      && decide (c.attemptsRemaining + h.issued = p.maxAttempts.val) && h.result == none

/-- Every element of the state holds a legal value. -/
def State.legal (s : State) : Bool :=
  indLegal s.params s.ind && levLegal s.params s.lev && hostLegal s.params s.host

/-- The invariant of the machine. -/
abbrev State.Inv (s : State) : Prop := s.legal = true

/-- The address and the byte an event delivers in a state, if it delivers one: a transaction's own, or the frame of the
host's call as the bus altered it (R202, R209). -/
def delivers (e : Event) (s : State) : Option (BusAddress × Byte) :=
  match e with
  | .transaction addr frame => some (addr, frame)
  | .host _ noise =>
    match s.host.call with
    | none => none
    | some c => if c.attemptsRemaining = 0 then none else some (c.addr, c.frame ^^^ noise.frame)
  | .tick _ | .pins _ _ | .powerCycle _ => none

/-- The instruction the next step delivers to a device: a legal frame sent to the device's address. -/
def State.deliveredInstr (s : State) : Option Instr :=
  match delivers s.takeEvent.1 s with
  | none => none
  | some (addr, frame) =>
    match Device.ofAddress addr with
    | none => none
    | some dev => (decodeInstr dev frame).toOption

/-- The run of the machine over the events `es`, laid down before whatever else is to come: as many steps as `es` has
events (R263). -/
def runEvents (es : List Event) (s : State) : Host.Outcome State Fault Refusal :=
  Host.Core.run Sys2Proof.core es.length { s with schedule := es ++ s.schedule }

/-- A run of `k` ticks of one device and nothing else. -/
def runTicks (dev : Device) (k : Nat) (s : State) : Host.Outcome State Fault Refusal :=
  runEvents (List.replicate k (.tick dev)) s

end Sys2Proof.Machine
end

