-- ==== Sys2Proof/Certificates/Slice0/Obligations.lean ====
section
/-! DEFINITION. The statements for the provers. Each docstring names the rule of spec/ it formalises; where a clause is the
spec's own decision (92_eei_decisions.md D<n>) or inference, the docstring says so and names the model's log entry. -/

namespace Sys2Proof.Claims

/-- `popcount`: the number of 1 bits of a value (R10), counted over its bit positions. -/
def ones {n : Nat} (v : BitVec n) : Nat := ((List.range n).filter fun i => v.getLsbD i).length

/-- The indicator's status byte as a number: marker 128, blink 8, colour 0 to 7 (R130). -/
def indStatus (blink : Bool) (color : Color) : Byte := BitVec.ofNat 8 (128 + 8 * blink.toNat + color.toNat)

/-- The lever's status byte: 0x01 Unknown, 0x02 Closed, 0x03 Open (R160). -/
def levStatus : Machine.LeverStatus → Byte
  | .unknown => 0x01#8
  | .closed => 0x02#8
  | .opened => 0x03#8

/-- The reply pair of a status byte (R82). -/
def pairOf (status : Byte) : Reply := ⟨status, ~~~status⟩

/-- The reply to a frame that is not executed (R222). -/
def notExecutedReply : Reply := ⟨0x00#8, 0xFF#8⟩

/-- The frame is one a device does not execute (R222): its parity is wrong, its command code is reserved, or it is an
LEV.SET with a value outside 1, 2 and 3. -/
def NotExecuted (dev : Device) (b : Byte) : Prop :=
  b.getLsbD 7 ≠ parity (b.extractLsb' 0 7)
    ∨ 3 ≤ (b.extractLsb' 4 3).toNat
    ∨ (dev = .lev ∧ b.extractLsb' 4 3 = 2#3 ∧ ¬(1 ≤ (b.extractLsb' 0 4).toNat ∧ (b.extractLsb' 0 4).toNat ≤ 3))

/-- The sample of the lever's lines as a number: 2 for closed asserted plus 1 for open asserted, each when its line is low
(R170). -/
def sampleOf (p : Pins) : Pattern := BitVec.ofNat 2 (2 * (!p.closedN).toNat + (!p.openN).toNat)

/-- The attention hold countdown of a lever tick, part (1) of R171's pseudocode: the line and the timer after it. -/
def holdAfter (h : AttnHold) (attn : Bool) (timer : Byte) : Bool × Byte :=
  match h, attn with
  | .ticks _, true => (decide (timer - 1#8 ≠ 0#8), timer - 1#8)
  | _, a => (a, timer)

/-- The events "the lines change to p, then the lever ticks", for each p in turn. -/
def pinsThenTick (ps : List Pins) : List Event :=
  ps.flatMap fun p => [.pins p.openN p.closedN, .tick .lev]

/-- Every sample differs from the one before it, the first from `q`. -/
def EverySampleDiffers : Pattern → List Pins → Prop
  | _, [] => True
  | q, p :: ps => sampleOf p ≠ q ∧ EverySampleDiffers (sampleOf p) ps

/-- A transfer that flips no bit. -/
def clean : Noise := ⟨0#8, 0#8, 0#8⟩

end Sys2Proof.Claims

open Sys2Proof Sys2Proof.Machine Sys2Proof.Claims

/-! ## The frame codec -/

/-- R100: the parity of seven bits is their popcount mod 2, with its corner cases and its example. -/
def Obligations.ParityIsPopcountModTwo : Prop :=
  (∀ v : BitVec 7, parity v = decide (ones v % 2 = 1))
    ∧ parity 0x00#7 = false ∧ parity 0x7F#7 = true ∧ parity 0x22#7 = false

/-- R101: `encode` puts the command in bits 6..4, the data in bits 3..0 and their parity in bit 7, with its corner cases
and examples. -/
def Obligations.EncodeFrameLayout : Prop :=
  (∀ (c : Command) (d : Data),
    (encodeFrame c d).extractLsb' 4 3 = c ∧ (encodeFrame c d).extractLsb' 0 4 = d
      ∧ (encodeFrame c d).getLsbD 7 = parity (c ++ d))
    ∧ encodeFrame 0#3 0#4 = 0x00#8 ∧ encodeFrame 7#3 15#4 = 0xFF#8 ∧ encodeFrame 0#3 1#4 = 0x81#8
    ∧ encodeFrame 2#3 2#4 = 0x22#8 ∧ encodeFrame 1#3 0#4 = 0x90#8

/-- R103: `decode` fails with ParityError when bit 7 disagrees with the recomputed parity and otherwise gives the two
fields, with its corner cases and examples. -/
def Obligations.DecodeFrameChecksParity : Prop :=
  (∀ b : Byte, decodeFrame b =
    if b.getLsbD 7 ≠ parity (b.extractLsb' 0 7) then .error .parityError
    else .ok (b.extractLsb' 4 3, b.extractLsb' 0 4))
    ∧ decodeFrame 0x00#8 = .ok (0#3, 0#4) ∧ decodeFrame 0x80#8 = .error .parityError
    ∧ decodeFrame 0xFF#8 = .ok (7#3, 15#4) ∧ decodeFrame 0x7F#8 = .error .parityError
    ∧ decodeFrame 0x22#8 = .ok (2#3, 2#4) ∧ decodeFrame 0xA2#8 = .error .parityError

/-- R105 and R106: `pack` gives the status and its complement; `unpack` fails exactly when the check byte is not the
complement of the status byte; with their corner cases and examples. -/
def Obligations.PackAndUnpackReply : Prop :=
  (∀ st : Byte, packResponse st = ⟨st, ~~~st⟩)
    ∧ (∀ st ck : Byte, unpackResponse ⟨st, ck⟩ = if ck ≠ ~~~st then .error .integrityError else .ok st)
    ∧ packResponse 0x00#8 = ⟨0x00#8, 0xFF#8⟩ ∧ packResponse 0xFF#8 = ⟨0xFF#8, 0x00#8⟩
    ∧ packResponse 0x80#8 = ⟨0x80#8, 0x7F#8⟩ ∧ packResponse 0x82#8 = ⟨0x82#8, 0x7D#8⟩
    ∧ unpackResponse ⟨0x00#8, 0xFF#8⟩ = .ok 0x00#8 ∧ unpackResponse ⟨0x00#8, 0x00#8⟩ = .error .integrityError
    ∧ unpackResponse ⟨0xFF#8, 0xFF#8⟩ = .error .integrityError ∧ unpackResponse ⟨0x82#8, 0x7D#8⟩ = .ok 0x82#8
    ∧ unpackResponse ⟨0x82#8, 0x7C#8⟩ = .error .integrityError

/-- R108 and R110, inferences of the spec: `encode` is a bijection from the pairs of a command and a data field onto the
bytes that decode, `decode` is its inverse, and every other byte is a parity error. -/
def Obligations.EncodeDecodeBijection : Prop :=
  (∀ (c : Command) (d : Data), decodeFrame (encodeFrame c d) = .ok (c, d))
    ∧ (∀ (b : Byte) (c : Command) (d : Data), decodeFrame b = .ok (c, d) → encodeFrame c d = b)
    ∧ (∀ b : Byte, (∀ (c : Command) (d : Data), encodeFrame c d ≠ b) → decodeFrame b = .error .parityError)

/-- R109, an inference of the spec: flipping an odd number of bits of a legal frame is a parity error, and flipping an even
number of bits is not detected. -/
def Obligations.OddBitFlipsAreDetected : Prop :=
  ∀ (c : Command) (d : Data) (flips : Byte),
    (ones flips % 2 = 1 → decodeFrame (encodeFrame c d ^^^ flips) = .error .parityError)
      ∧ (ones flips % 2 = 0 → ∃ c' d', decodeFrame (encodeFrame c d ^^^ flips) = .ok (c', d'))

/-- R111, an inference of the spec: a packed status unpacks to itself, changing exactly one byte of the pair is an
integrity error, and changing both into another complementary pair is not detected. -/
def Obligations.ReplyIntegrity : Prop :=
  (∀ st : Byte, unpackResponse (packResponse st) = .ok st)
    ∧ (∀ st b : Byte, b ≠ st → unpackResponse ⟨b, (packResponse st).byte1⟩ = .error .integrityError)
    ∧ (∀ st b : Byte, b ≠ ~~~st → unpackResponse ⟨(packResponse st).byte0, b⟩ = .error .integrityError)
    ∧ (∀ st other : Byte,
        unpackResponse ⟨st ^^^ (st ^^^ other), ~~~st ^^^ (st ^^^ other)⟩ = .ok other)

/-- Decoding the encoding of a well-formed instruction on its own device gives it back with every operand, and an
instruction that was decoded encodes to the byte it came from, on the device that decoded it (R83, R94, R110). -/
def Obligations.InstructionDecodeEncodeAgree : Prop :=
  (∀ i : Instr, i.wellFormed = true → decodeInstr i.device (encode i) = .ok i)
    ∧ (∀ (dev : Device) (b : Byte) (i : Instr), decodeInstr dev b = .ok i → i.device = dev ∧ encode i = b)

/-- A few frames written out bit by bit from R80 and R83, with the command and operand each stands for on the two
devices, and two frames whose parity bit is wrong. -/
def Obligations.WrittenFramesDecode : Prop :=
  decodeInstr .ind 0b00000000#8 = .ok (.indReset 0#4) ∧ decodeInstr .lev 0b00000000#8 = .ok (.levReset 0#4)
    ∧ decodeInstr .ind 0b10010000#8 = .ok (.indGet 0#4) ∧ decodeInstr .lev 0b10010000#8 = .ok (.levGet 0#4)
    ∧ decodeInstr .ind 0b10101001#8 = .ok (.indSet true 1#3) ∧ decodeInstr .lev 0b10100011#8 = .ok (.levSet 3#4)
    ∧ decodeInstr .ind 0b00110000#8 = .ok (.indRsvd3 0#4) ∧ decodeInstr .lev 0b11111111#8 = .ok (.levRsvd7 15#4)
    ∧ decodeInstr .ind 0b10100010#8 = .error .parityError ∧ decodeInstr .lev 0b00100011#8 = .error .parityError

/-- R83, R84: the command map of both devices over every data field, the operands of IND.SET, and the two bus
addresses. -/
def Obligations.CommandMapOfBothDevices : Prop :=
  Device.ofAddress 0x20 = some .ind ∧ Device.ofAddress 0x24 = some .lev
    ∧ ∀ d : Data,
      decodeInstr .ind (encodeFrame 0#3 d) = .ok (.indReset d) ∧ decodeInstr .lev (encodeFrame 0#3 d) = .ok (.levReset d)
        ∧ decodeInstr .ind (encodeFrame 1#3 d) = .ok (.indGet d) ∧ decodeInstr .lev (encodeFrame 1#3 d) = .ok (.levGet d)
        ∧ decodeInstr .ind (encodeFrame 2#3 d) = .ok (.indSet (d.getLsbD 3) (d.extractLsb' 0 3))
        ∧ decodeInstr .lev (encodeFrame 2#3 d) = .ok (.levSet d)
        ∧ decodeInstr .ind (encodeFrame 3#3 d) = .ok (.indRsvd3 d) ∧ decodeInstr .lev (encodeFrame 3#3 d) = .ok (.levRsvd3 d)
        ∧ decodeInstr .ind (encodeFrame 4#3 d) = .ok (.indRsvd4 d) ∧ decodeInstr .lev (encodeFrame 4#3 d) = .ok (.levRsvd4 d)
        ∧ decodeInstr .ind (encodeFrame 5#3 d) = .ok (.indRsvd5 d) ∧ decodeInstr .lev (encodeFrame 5#3 d) = .ok (.levRsvd5 d)
        ∧ decodeInstr .ind (encodeFrame 6#3 d) = .ok (.indRsvd6 d) ∧ decodeInstr .lev (encodeFrame 6#3 d) = .ok (.levRsvd6 d)
        ∧ decodeInstr .ind (encodeFrame 7#3 d) = .ok (.indRsvd7 d) ∧ decodeInstr .lev (encodeFrame 7#3 d) = .ok (.levRsvd7 d)

/-! ## The step and the devices -/

/-- A step whose event delivers a byte that decodes on the device at the address runs that instruction: it is `exec` of it
on the state without the event and without the reply of the step before (R62, R83, R89, R137, R161). -/
def Obligations.StepRunsDecodedInstruction : Prop :=
  ∀ (s : State) (addr : BusAddress) (b : Byte) (rest : List Event) (dev : Device) (i : Instr),
    s.schedule = .transaction addr b :: rest → Device.ofAddress addr = some dev → decodeInstr dev b = .ok i →
    step s = exec i { s with schedule := rest, reply := none }

/-- R88 and R104: a frame whose parity is wrong, sent to either device, is not executed and changes no state. That the
reply is (0x00, 0xFF) is the spec's decision D5 (log entry 5). -/
def Obligations.ParityInvalidFrameNotExecuted : Prop :=
  ∀ (s : State) (addr : BusAddress) (b : Byte) (rest : List Event),
    s.schedule = .transaction addr b :: rest → (addr = 0x20 ∨ addr = 0x24) →
    b.getLsbD 7 ≠ parity (b.extractLsb' 0 7) →
    step s = .next { s with schedule := rest, reply := some notExecutedReply }

/-- R222 and R225: a device's frame step always completes with a complementary reply pair; the status is 0x00 exactly for
the three outcomes of R222, and then no state is written; every executed command answers 0x80..0x8F on the indicator and
0x01..0x03 on the lever. The reply bytes rest on the spec's decisions D5, D6, D8 and D9 (log entries 5, 6, 8, 9). -/
def Obligations.ZeroStatusIffNotExecuted : Prop :=
  ∀ (dev : Device) (b : Byte) (s : State), ∃ t r,
    serveFrame dev b s = .next t ∧ t.reply = some r ∧ r.byte1 = ~~~r.byte0
      ∧ (r.byte0 = 0#8 ↔ NotExecuted dev b)
      ∧ (NotExecuted dev b → t = { s with reply := some notExecutedReply })
      ∧ (¬NotExecuted dev b → match dev with
          | .ind => 0x80 ≤ r.byte0.toNat ∧ r.byte0.toNat ≤ 0x8F
          | .lev => 1 ≤ r.byte0.toNat ∧ r.byte0.toNat ≤ 3)

/-- R73, an inference of the spec: serving the same frame twice in a row, with no tick in between, leaves the state and gives
the reply of serving it once. -/
def Obligations.FramesAreIdempotent : Prop :=
  ∀ (dev : Device) (b : Byte) (s t : State), serveFrame dev b s = .next t → serveFrame dev b t = .next t

/-- For any byte sent to it, a reply of the indicator depends on the stored colour and blink flag alone, and a reply of the
lever on the committed status alone: never on phase, counters, latch, lines or outputs. For the get commands these are R145,
an inference of the spec, and R164. For the other frames it rests on the replies the spec decides: D5 for a parity error, D6
for a reserved code, D8 for a reset or a set (log entries 5, 6, 8). -/
def Obligations.RepliesDependOnReportedStateOnly : Prop :=
  (∀ (b : Byte) (s₁ s₂ t₁ t₂ : State), s₁.ind.color = s₂.ind.color → s₁.ind.blink = s₂.ind.blink →
    serveFrame .ind b s₁ = .next t₁ → serveFrame .ind b s₂ = .next t₂ → t₁.reply = t₂.reply)
    ∧ (∀ (b : Byte) (s₁ s₂ t₁ t₂ : State), s₁.lev.status = s₂.lev.status →
      serveFrame .lev b s₁ = .next t₁ → serveFrame .lev b s₂ = .next t₂ → t₁.reply = t₂.reply)

/-! ## The indicator's commands -/

/-- R130: the status byte is marker 0x80, blink in bit 3, colour in bits 2..0, so never 0x00. The place of the blink bit and
the zero bits 6..4 are the spec's decision D9 (log entry 9). -/
def Obligations.IndicatorStatusByteLayout : Prop :=
  ∀ d : IndicatorState, indStatusByte d = indStatus d.blink d.color ∧ indStatusByte d ≠ 0#8
    ∧ 0x80 ≤ (indStatusByte d).toNat ∧ (indStatusByte d).toNat ≤ 0x8F

/-- R131: IND.RESET clears the drive enable and writes nothing else. The reply and the untouched fields are the spec's
decisions D8 and D15, and that DATA is ignored is D7 (log entries 7, 8, 12). -/
def Obligations.IndResetResult : Prop :=
  ∀ (data : Data) (s : State), exec (.indReset data) s = .next
    { s with
      ind := { s.ind with outEn := false }
      reply := some (pairOf (indStatus s.ind.blink s.ind.color)) }

/-- R132: IND.GET replies with the packed status byte and writes nothing; its sixteen frames decode to it; the reply at
power-up; the reply after `IND.SET 2, 0`. The layout of the byte and the ignored DATA are the spec's decisions D9 and D7 (log
entries 7, 9). -/
def Obligations.IndGetResult : Prop :=
  (∀ (data : Data) (s : State), exec (.indGet data) s = .next { s with reply := some (packResponse (indStatusByte s.ind)) })
    ∧ (∀ b ∈ [0x90#8, 0x11#8, 0x12#8, 0x93#8, 0x14#8, 0x95#8, 0x96#8, 0x17#8, 0x18#8, 0x99#8, 0x9A#8, 0x1B#8, 0x9C#8,
        0x1D#8, 0x1E#8, 0x9F#8], ∃ data, decodeInstr .ind b = .ok (.indGet data))
    ∧ (∀ (data : Data) (p : Params) (pins : Pins), exec (.indGet data) (State.powerUp p pins) = .next
        { State.powerUp p pins with reply := some ⟨0x80#8, 0x7F#8⟩ })
    ∧ (∀ (data : Data) (s : State), ∃ t, exec (.indSet false 2#3) s = .next t
        ∧ exec (.indGet data) t = .next { t with reply := some ⟨0x82#8, 0x7D#8⟩ })

/-- R133: IND.SET stores every colour code and the blink flag in one step and leaves the blink timer and the driven output
alone; the drive enable follows `IND_REDRIVE`. The reply, the untouched timer and the re-drive are the spec's decisions D8,
D13 and D15 (log entries 8, 10, 12). -/
def Obligations.IndSetResult : Prop :=
  ∀ (blink : Bool) (color : Color) (s : State), exec (.indSet blink color) s = .next
    { s with
      ind := { s.ind with
        color := color
        blink := blink
        outEn := if s.params.indRedrive = .onSetState then true else s.ind.outEn }
      reply := some (pairOf (indStatus blink color)) }

/-- R134: the reserved command codes 3 to 7 on the indicator write no state and reply (0x00, 0xFF): the spec's decision D6
(log entry 6). -/
def Obligations.IndReservedCodesResult : Prop :=
  ∀ (data : Data) (s : State),
    exec (.indRsvd3 data) s = .next { s with reply := some notExecutedReply }
      ∧ exec (.indRsvd4 data) s = .next { s with reply := some notExecutedReply }
      ∧ exec (.indRsvd5 data) s = .next { s with reply := some notExecutedReply }
      ∧ exec (.indRsvd6 data) s = .next { s with reply := some notExecutedReply }
      ∧ exec (.indRsvd7 data) s = .next { s with reply := some notExecutedReply }

/-- R131 to R134, R42, R43: every command of the indicator completes, and it leaves the blink timer, the driven output, the
lever, the input lines, the host, the parameters and the events to come as they were. The untouched fields rest on the spec's
decisions D6, D13 and D15 (log entries 6, 10, 12). -/
def Obligations.IndicatorCommandsFrame : Prop :=
  ∀ (i : Instr) (s : State), i.device = .ind → ∃ t, exec i s = .next t
    ∧ t.ind.phaseOn = s.ind.phaseOn ∧ t.ind.blinkCnt = s.ind.blinkCnt ∧ t.ind.ledOut = s.ind.ledOut
    ∧ t.lev = s.lev ∧ t.pins = s.pins ∧ t.host = s.host ∧ t.params = s.params
    ∧ t.schedule = s.schedule ∧ t.draws = s.draws

/-! ## The indicator's tick -/

/-- R140: one indicator tick, as its pseudocode says, and nothing else of the machine changes. The comparison `>=`, the
counter and the re-drive are the spec's decisions D11 and D15 (log entries 10, 12). -/
def Obligations.IndTickResult : Prop :=
  ∀ (s : State) (rest : List Event), s.schedule = .tick .ind :: rest →
    let c1 := s.ind.blinkCnt.toNat + 1
    let wraps := s.params.blinkThreshold.val.toNat ≤ c1
    let ph := if wraps then !s.ind.phaseOn else s.ind.phaseOn
    step s = .next
      { s with
        schedule := rest
        reply := none
        ind := { s.ind with
          blinkCnt := if wraps then 0#8 else BitVec.ofNat 8 c1
          phaseOn := ph
          ledOut := if s.ind.blink = true ∧ ph = false then 0#3 else s.ind.color
          outEn := if s.params.indRedrive = .onTick then true else s.ind.outEn } }

/-- R141 and R142: the free-running blink timer in closed form. After k ticks from a legal counter, the counter is the ticks
counted mod Tb and the phase has toggled once for each Tb of them, whatever the blink flag; with blink on, the output after
the last tick is the colour in phase "on" and 0 in phase "off". Rests on the spec's decision D11 (log entry 10). -/
def Obligations.BlinkTimerClosedForm : Prop :=
  ∀ (s : State) (k : Nat), indLegal s.params s.ind = true →
    let total := s.ind.blinkCnt.toNat + k
    let tb := s.params.blinkThreshold.val.toNat
    ∃ t, runTicks .ind k s = .next t
      ∧ t.ind.blinkCnt.toNat = total % tb
      ∧ t.ind.phaseOn = (s.ind.phaseOn != decide (total / tb % 2 = 1))
      ∧ t.ind.color = s.ind.color ∧ t.ind.blink = s.ind.blink
      ∧ (1 ≤ k → s.ind.blink = true → t.ind.ledOut = if t.ind.phaseOn = true then s.ind.color else 0#3)

/-- R142, an inference of the spec from R140: with blink on and colour c, from the first tick on, the output is c or 0, the
output Tb ticks later is the other of the two, and the output 2 Tb ticks later is the same again. Counted from the first
toggle of the phase, which falls Tb ticks after the counter was 0, the output is c for Tb ticks in a row and 0 for the next Tb
ticks, repeating; the first of these runs shows c exactly if the phase was "off" before it. Rests on the spec's decision D11
(log entry 10). -/
def Obligations.BlinkPeriodIsTwiceThreshold : Prop :=
  ∀ s : State, indLegal s.params s.ind = true → s.ind.blink = true →
    let tb := s.params.blinkThreshold.val.toNat
    let first := tb - s.ind.blinkCnt.toNat
    (∀ k, 1 ≤ k → ∃ t₀ t₁ t₂, runTicks .ind k s = .next t₀ ∧ runTicks .ind (k + tb) s = .next t₁
      ∧ runTicks .ind (k + 2 * tb) s = .next t₂
      ∧ t₂.ind.ledOut = t₀.ind.ledOut
      ∧ ((t₀.ind.ledOut = s.ind.color ∧ t₁.ind.ledOut = 0#3) ∨ (t₀.ind.ledOut = 0#3 ∧ t₁.ind.ledOut = s.ind.color)))
    ∧ 1 ≤ first ∧ first ≤ tb
    ∧ ∀ run i, i < tb → ∃ t, runTicks .ind (first + run * tb + i) s = .next t
      ∧ t.ind.ledOut = if (run % 2 = 0 ↔ s.ind.phaseOn = false) then s.ind.color else 0#3

/-- R143, an inference of the spec from R140: with blink off and colour c, the output is c after every tick, whatever the
phase and the counter. -/
def Obligations.SteadyOutputWithoutBlink : Prop :=
  ∀ (s : State) (k : Nat), s.ind.blink = false → 1 ≤ k →
    ∃ t, runTicks .ind k s = .next t ∧ t.ind.ledOut = s.ind.color

/-- R135, an inference of the spec: a transaction that carries IND.SET leaves the driven output as it was and is reported by
the status byte at once; the next tick then shows the new setting: with blink off, or in phase "on", the colour. Rests on the
spec's decisions D9 and D13 (log entries 9, 10). -/
def Obligations.IndSetShowsAtNextTick : Prop :=
  ∀ (blink : Bool) (color : Color) (s : State), ∃ t u,
    runEvents [.transaction 0x20 (encode (.indSet blink color))] s = .next t
      ∧ t.ind.ledOut = s.ind.ledOut ∧ indStatusByte t.ind = indStatus blink color
      ∧ runTicks .ind 1 t = .next u
      ∧ u.ind.ledOut = if blink = true ∧ u.ind.phaseOn = false then 0#3 else color

/-! ## The lever's commands -/

/-- R163: LEV.RESET releases the attention line and clears its timer and writes nothing else, in both hold modes. The reply,
the untouched fields, the ignored DATA and the codes are the spec's decisions D8, D27, D7 and D20 (log entries 7, 8, 14,
16). -/
def Obligations.LevResetResult : Prop :=
  ∀ (data : Data) (s : State), exec (.levReset data) s = .next
    { s with
      lev := { s.lev with attn := false, attnTimer := 0#8 }
      reply := some (pairOf (levStatus s.lev.status)) }

/-- R164: LEV.GET replies with the packed status byte and writes nothing, the attention line included; its sixteen frames
decode to it; the reply at power-up; the reply when the status is Closed. The ignored DATA, the codes and the power-up status
are the spec's decisions D7, D20 and D23 (log entries 7, 11, 14). -/
def Obligations.LevGetResult : Prop :=
  (∀ (data : Data) (s : State), exec (.levGet data) s = .next { s with reply := some (packResponse (levStatusByte s.lev)) })
    ∧ (∀ b ∈ [0x90#8, 0x11#8, 0x12#8, 0x93#8, 0x14#8, 0x95#8, 0x96#8, 0x17#8, 0x18#8, 0x99#8, 0x9A#8, 0x1B#8, 0x9C#8,
        0x1D#8, 0x1E#8, 0x9F#8], ∃ data, decodeInstr .lev b = .ok (.levGet data))
    ∧ (∀ (data : Data) (p : Params) (pins : Pins), exec (.levGet data) (State.powerUp p pins) = .next
        { State.powerUp p pins with reply := some ⟨0x01#8, 0xFE#8⟩ })
    ∧ (∀ (data : Data) (s : State), s.lev.status = .closed →
        exec (.levGet data) s = .next { s with reply := some ⟨0x02#8, 0xFD#8⟩ })

/-- R165: LEV.SET is accepted for exactly the values 1, 2 and 3, which the status then holds; any other value changes no
state and the status of the reply stays at the failure sentinel 0. -/
def Obligations.LevSetAcceptsOneToThree : Prop :=
  ∀ (value : Data) (s : State), ∃ t r, exec (.levSet value) s = .next t ∧ t.reply = some r
    ∧ (1 ≤ value.toNat ∧ value.toNat ≤ 3 → t.lev.status.code.toNat = value.toNat)
    ∧ (¬(1 ≤ value.toNat ∧ value.toNat ≤ 3) → t = { s with reply := some r } ∧ r.byte0 = 0#8)

/-- R166 and R168: what each value of LEV.SET does. An accepted value writes the status and nothing else: no attention pulse,
the latch and the counter untouched. The codes of Closed and Open, the replies and the untouched registers are the spec's
decisions D8, D20 and D26 (log entries 8, 14, 15). -/
def Obligations.LevSetResult : Prop :=
  ∀ (value : Data) (s : State), exec (.levSet value) s = .next
    (if value = 1#4 then { s with lev := { s.lev with status := .unknown }, reply := some ⟨0x01#8, 0xFE#8⟩ }
    else if value = 2#4 then { s with lev := { s.lev with status := .closed }, reply := some ⟨0x02#8, 0xFD#8⟩ }
    else if value = 3#4 then { s with lev := { s.lev with status := .opened }, reply := some ⟨0x03#8, 0xFC#8⟩ }
    else { s with reply := some notExecutedReply })

/-- R167: the reserved command codes 3 to 7 on the lever write no state and reply (0x00, 0xFF): the spec's decision D6 (log
entry 6). -/
def Obligations.LevReservedCodesResult : Prop :=
  ∀ (data : Data) (s : State),
    exec (.levRsvd3 data) s = .next { s with reply := some notExecutedReply }
      ∧ exec (.levRsvd4 data) s = .next { s with reply := some notExecutedReply }
      ∧ exec (.levRsvd5 data) s = .next { s with reply := some notExecutedReply }
      ∧ exec (.levRsvd6 data) s = .next { s with reply := some notExecutedReply }
      ∧ exec (.levRsvd7 data) s = .next { s with reply := some notExecutedReply }

/-- R163 to R168, R42, R43: every command of the lever completes, and it leaves the input latch, the debounce counter, the
indicator, the input lines, the host, the parameters and the events to come as they were; only LEV.RESET writes the
attention line, and only to release it. The untouched fields rest on the spec's decisions D6, D26 and D27 (log entries 6, 15,
16). -/
def Obligations.LeverCommandsFrame : Prop :=
  ∀ (i : Instr) (s : State), i.device = .lev → ∃ t, exec i s = .next t
    ∧ t.lev.prev = s.lev.prev ∧ t.lev.cnt = s.lev.cnt
    ∧ ((t.lev.attn = s.lev.attn ∧ t.lev.attnTimer = s.lev.attnTimer)
        ∨ (∃ data, i = .levReset data ∧ t.lev.attn = false ∧ t.lev.attnTimer = 0#8))
    ∧ t.ind = s.ind ∧ t.pins = s.pins ∧ t.host = s.host ∧ t.params = s.params
    ∧ t.schedule = s.schedule ∧ t.draws = s.draws

/-! ## The lever's tick -/

/-- R170 to R173: one lever tick, as the pseudocode says, and nothing else of the machine changes. The counting, the order of
the parts, the pattern bits and the silence of a commit of the value held are the spec's decisions D17, D19, D21, D24, D25
(log entries 13, 14, 15, 17). -/
def Obligations.LevTickResult : Prop :=
  ∀ (s : State) (rest : List Event), s.schedule = .tick .lev :: rest →
    let q := sampleOf s.pins
    let k := s.lev.cnt - 1#8
    let held := holdAfter s.params.attnHold s.lev.attn s.lev.attnTimer
    let commits : Option LeverStatus :=
      if q = s.lev.prev ∧ k = 0#8 then
        if q = 0b01#2 ∧ s.lev.status ≠ .opened then some .opened
        else if q = 0b10#2 ∧ s.lev.status ≠ .closed then some .closed
        else none
      else none
    step s = .next
      { s with
        schedule := rest
        reply := none
        lev :=
          { status := commits.getD s.lev.status
            prev := q
            cnt := if q = s.lev.prev ∧ k ≠ 0#8 then k else s.params.debounceThreshold.val
            attn := commits.isSome || held.1
            attnTimer := match commits, s.params.attnHold with
              | some _, .ticks n => n.val
              | _, _ => held.2 } }

/-- R177, an inference of the spec from R171: if the sample differs from the one before it at every tick of a run, the status
does not change, and the counter stands at Td. Rests on the spec's decision D17 (log entry 13). -/
def Obligations.ChatterNeverCommits : Prop :=
  ∀ (s : State) (ps : List Pins), EverySampleDiffers s.lev.prev ps →
    ∃ t, runEvents (pinsThenTick ps) s = .next t ∧ t.lev.status = s.lev.status
      ∧ (ps ≠ [] → t.lev.cnt = s.params.debounceThreshold.val)

/-- R178, an inference of the spec: after the tick that latches a new clean pattern, fewer than Td further ticks with the
lines unchanged commit nothing, the Td-th commits the pattern's status, and no later tick changes the status. At that tick
attention is asserted if the status is a new one. Rests on the spec's decisions D17, D19, D20 and
D21 (log entries 13, 14, 15). -/
def Obligations.StableRunCommitsOnce : Prop :=
  ∀ (s : State) (k : Nat) (st : LeverStatus), sampleOf s.pins ≠ s.lev.prev →
    (sampleOf s.pins = 0b01#2 ∧ st = .opened ∨ sampleOf s.pins = 0b10#2 ∧ st = .closed) →
    ∃ t, runTicks .lev (k + 1) s = .next t
      ∧ t.lev.status = (if k < s.params.debounceThreshold.val.toNat then s.lev.status else st)
      ∧ (k = s.params.debounceThreshold.val.toNat → st ≠ s.lev.status → t.lev.attn = true)

/-- R180, an inference of the spec: whatever status is held (LEV.SET may have written it), while the lines keep showing the
latched clean pattern of another status, that status is written back by the tick at which the counter runs out, after at
most Td ticks, and attention is asserted; no tick before changes the status. Rests on the spec's decisions D17, D19, D20, D21
and D26 (log entries 13, 14, 15). -/
def Obligations.HeldPatternIsRecommitted : Prop :=
  ∀ (s : State) (k : Nat) (st : LeverStatus), levLegal s.params s.lev = true → sampleOf s.pins = s.lev.prev →
    (s.lev.prev = 0b01#2 ∧ st = .opened ∨ s.lev.prev = 0b10#2 ∧ st = .closed) → st ≠ s.lev.status →
    s.lev.cnt.toNat ≤ s.params.debounceThreshold.val.toNat
      ∧ ∃ t, runTicks .lev k s = .next t
        ∧ t.lev.status = (if k < s.lev.cnt.toNat then s.lev.status else st)
        ∧ (k = s.lev.cnt.toNat → t.lev.attn = true)

/-- R175, R176 and R179: while both lines, or neither, are asserted, no number of ticks changes the status. That neither
line asserted commits nothing is the spec's decision D22 (log entry 15). -/
def Obligations.UncleanPatternNeverCommits : Prop :=
  ∀ (s : State) (k : Nat), (s.pins = ⟨false, false⟩ ∨ s.pins = ⟨true, true⟩) →
    ∃ t, runTicks .lev k s = .next t ∧ t.lev.status = s.lev.status

/-- R173, R229 and R168: over every event of the machine, the attention line goes from released to asserted only at a lever
tick that commits a status different from the one held; and every lever tick that changes the status leaves the line
asserted. Rests on the spec's decisions D21, D24 and D26 (log entries 15, 17). -/
def Obligations.AttentionRisesOnCommittedChangeOnly : Prop :=
  ∀ s t : State, step s = .next t →
    (s.lev.attn = false → t.lev.attn = true → s.takeEvent.1 = .tick .lev ∧ t.lev.status ≠ s.lev.status)
      ∧ (s.takeEvent.1 = .tick .lev → t.lev.status ≠ s.lev.status → t.lev.attn = true)

/-- R174: an asserted attention line that no new commit asserts again (the lines are not clean, or show the status held) is
released by the tick at which its timer runs out, under `Ticks(n)`, and is never released by a tick under `UntilReset`. The
two modes are the spec's OPEN parameter D24 (log entry 17). That lines which show the status held, or neither line, do not
assert it again and restart its hold is the spec's decisions D21 and D22 (log entry 15). -/
def Obligations.AttentionHoldTime : Prop :=
  ∀ (s : State) (k : Nat), attnLegal s.params.attnHold s.lev = true → s.lev.attn = true →
    (sampleOf s.pins = 0b00#2 ∨ sampleOf s.pins = 0b11#2
      ∨ sampleOf s.pins = 0b01#2 ∧ s.lev.status = .opened ∨ sampleOf s.pins = 0b10#2 ∧ s.lev.status = .closed) →
    ∃ t, runTicks .lev k s = .next t
      ∧ (s.params.attnHold = .untilReset → t.lev.attn = true)
      ∧ (s.params.attnHold ≠ .untilReset →
          t.lev.attn = decide (k < s.lev.attnTimer.toNat) ∧ t.lev.attnTimer.toNat = s.lev.attnTimer.toNat - k)

/-- R39 and R93: an event of the input environment sets the two raw lines to its levels and changes nothing else, with no
reply. R181, an inference of the spec from R170: lines that change and change back between two ticks leave no trace: the state
is the one before, with no reply. Rests on the spec's decision D29 (log entry 18); that the lines stand in State is the model's
own (log entry 4). -/
def Obligations.PulseBetweenTicksLeavesNoTrace : Prop :=
  ∀ (s : State) (openN closedN : Bool),
    runEvents [.pins openN closedN] s = .next { s with pins := ⟨openN, closedN⟩, reply := none }
      ∧ runEvents [.pins openN closedN, .pins s.pins.openN s.pins.closedN] s = .next { s with reply := none }

/-! ## The whole machine -/

/-- R250, R24, R32: what power-up leaves in every register; the drive enable is `IND_OUT_EN_AT_START` and the debounce
counter Td. All but colour and blink are the spec's decisions D14, D16, D23 (log entry 11); the host, the schedule and the
reply are the model's own (log entries 1, 3, 22). -/
def Obligations.PowerUpValues : Prop :=
  State.reset.ind = ⟨0#3, false, true, 0#8, 0#3, Config.hardware.indOutEnAtStart⟩
    ∧ State.reset.lev = ⟨.unknown, 0b00#2, Config.hardware.debounceThreshold.val, false, 0#8⟩
    ∧ State.reset.host.call = none ∧ State.reset.reply = none ∧ State.reset.schedule = []

/-- R238, R250: power loss of one device brings its registers to their power-up values, from any state, and touches nothing
else of the machine. Rests on the spec's decisions D14, D16, D23 and D38 (log entries 11, 26). -/
def Obligations.PowerCycleRestoresPowerUp : Prop :=
  ∀ s : State,
    runEvents [.powerCycle .ind] s = .next
        { s with ind := ⟨0#3, false, true, 0#8, 0#3, s.params.indOutEnAtStart⟩, reply := none }
      ∧ runEvents [.powerCycle .lev] s = .next
        { s with lev := ⟨.unknown, 0b00#2, s.params.debounceThreshold.val, false, 0#8⟩, reply := none }

/-- The state right after reset meets the invariant of the machine (R28, R36, R38 and the host's own), whatever the
parameters of the hardware. The reset values are the spec's decisions D14 and D23 (log entry 11). -/
def Obligations.LegalStateAtReset : Prop := State.reset.Inv

/-- R28, R36, R38, R202: every step keeps the legal values of the counters and timers, and of the host's call. The
counters' bounds rest on the spec's decisions D11, D18 and D24 (log entries 10, 13, 17). -/
def Obligations.EveryStepKeepsLegalState : Prop :=
  ∀ s t : State, s.Inv → step s = .next t → t.Inv

/-- R223 and R63: no step faults, and a step that gives no next state delivers a byte to an address with no device behind
it, which the spec's decision D4 leaves without a meaning (log entry 21). -/
def Obligations.NothingIsFatal : Prop :=
  ∀ s : State, (∃ t, step s = .next t)
    ∨ ∃ addr b, delivers s.takeEvent.1 s = some (addr, b) ∧ addr ≠ 0x20 ∧ addr ≠ 0x24
        ∧ step s = .refused (.noDeviceAtAddress addr)

/-- R68, R227, R228, R254: a step takes exactly the first event laid down and leaves the others as they are, so that no event
is lost, merged or overtaken, and no step writes the parameters; where none is laid down, the step performs the environment's
next choice. Rests on the spec's decision D2; the schedule and the draws are the model's own (log entries 1, 19). -/
def Obligations.EventsAreNeitherLostNorMerged : Prop :=
  (∀ s t : State, step s = .next t → t.params = s.params
    ∧ ∀ e rest, s.schedule = e :: rest → t.schedule = rest ∧ t.draws = s.draws)
    ∧ ∀ s : State, s.schedule = [] →
      step s = perform (Config.environment s.draws) { s with draws := s.draws + 1, reply := none }

/-- R24, R43: which steps may change which register of the indicator, over every event of the machine. Rests on the spec's
decisions D6, D13 and D15 (log entries 6, 10, 12). -/
def Obligations.IndicatorRegisterWriters : Prop :=
  ∀ s t : State, step s = .next t →
    (t.ind.color ≠ s.ind.color ∨ t.ind.blink ≠ s.ind.blink →
      (∃ b c, s.deliveredInstr = some (.indSet b c)) ∨ s.takeEvent.1 = .powerCycle .ind)
    ∧ (t.ind.phaseOn ≠ s.ind.phaseOn ∨ t.ind.blinkCnt ≠ s.ind.blinkCnt ∨ t.ind.ledOut ≠ s.ind.ledOut →
      s.takeEvent.1 = .tick .ind ∨ s.takeEvent.1 = .powerCycle .ind)
    ∧ (t.ind.outEn ≠ s.ind.outEn →
      (∃ d, s.deliveredInstr = some (.indReset d))
        ∨ (s.params.indRedrive = .onSetState ∧ ∃ b c, s.deliveredInstr = some (.indSet b c))
        ∨ (s.params.indRedrive = .onTick ∧ s.takeEvent.1 = .tick .ind)
        ∨ s.takeEvent.1 = .powerCycle .ind)

/-- R32, R43: which steps may change which register of the lever, over every event of the machine. Rests on the spec's
decisions D6, D24, D26 and D27 (log entries 6, 15, 16, 17). -/
def Obligations.LeverRegisterWriters : Prop :=
  ∀ s t : State, step s = .next t →
    (t.lev.status ≠ s.lev.status →
      (∃ v, s.deliveredInstr = some (.levSet v)) ∨ s.takeEvent.1 = .tick .lev ∨ s.takeEvent.1 = .powerCycle .lev)
    ∧ (t.lev.prev ≠ s.lev.prev ∨ t.lev.cnt ≠ s.lev.cnt →
      s.takeEvent.1 = .tick .lev ∨ s.takeEvent.1 = .powerCycle .lev)
    ∧ (t.lev.attn ≠ s.lev.attn ∨ t.lev.attnTimer ≠ s.lev.attnTimer →
      (∃ d, s.deliveredInstr = some (.levReset d)) ∨ s.takeEvent.1 = .tick .lev ∨ s.takeEvent.1 = .powerCycle .lev)

/-- R42, R63: the devices share no state. Two machines that agree on the parameters, the host and the events to come, and on
one device (and, for the lever, its input lines), agree on that device after a step, whatever the other device holds; and
the reply of that device is the same. -/
def Obligations.DevicesDoNotInterfere : Prop :=
  ∀ s₁ s₂ t₁ t₂ : State, s₁.params = s₂.params → s₁.host = s₂.host → s₁.schedule = s₂.schedule →
    s₁.draws = s₂.draws → step s₁ = .next t₁ → step s₂ = .next t₂ →
    (s₁.ind = s₂.ind → t₁.ind = t₂.ind
      ∧ ∀ b, delivers s₁.takeEvent.1 s₁ = some (0x20, b) → t₁.reply = t₂.reply)
    ∧ (s₁.lev = s₂.lev → s₁.pins = s₂.pins → t₁.lev = t₂.lev ∧ t₁.pins = t₂.pins
      ∧ ∀ b, delivers s₁.takeEvent.1 s₁ = some (0x24, b) → t₁.reply = t₂.reply)

/-- R231: an IND.GET and a tick leave the same indicator and give the same reply in both orders; an IND.SET and a tick need
not: in some state the two orders leave different outputs. That both orders are admitted is the spec's decision
D2 (log entry 1). -/
def Obligations.TickAndFrameOrder : Prop :=
  (∀ (data : Data) (s : State), ∃ t u v w,
    exec (.indGet data) s = .next t ∧ exec (.indGet data) (tickDevice .ind s) = .next u ∧ t.reply = u.reply
      ∧ runEvents [.transaction 0x20 (encode (.indGet data)), .tick .ind] s = .next v
      ∧ runEvents [.tick .ind, .transaction 0x20 (encode (.indGet data))] s = .next w ∧ v.ind = w.ind)
    ∧ ∃ (s t u : State),
      runEvents [.transaction 0x20 (encode (.indSet false 1#3)), .tick .ind] s = .next t
        ∧ runEvents [.tick .ind, .transaction 0x20 (encode (.indSet false 1#3))] s = .next u
        ∧ t.ind.ledOut ≠ u.ind.ledOut

/-- R31 and R40: the output lines are functions of the state: the indicator drives the levels of the driven code's row of the
pin map exactly while its drive enable is set, and the lever drives the attention line low exactly while attention is
asserted. The pin map is the spec's OPEN parameter of D10, here a table of eight rows (log entry 27). -/
def Obligations.OutputLinesFollowState : Prop :=
  (∀ (p : Params) (d : IndicatorState),
    (d.outEn = true → indLines p d = .driven (p.colorPinMap.get d.ledOut.toFin))
      ∧ (d.outEn = false → indLines p d = .highZ))
    ∧ ∀ d : LeverState, (d.attn = true → attnLine d = .driveLow) ∧ (d.attn = false → attnLine d = .highZ)

/-! ## The host retry transport (environment) -/

/-- R201: a call whose command does not fit 3 bits or whose data does not fit 4 bits fails at once with InvalidArgument and
issues no transaction: no reply, and the devices are as they were. -/
def Obligations.RangeCheckBeforeTheBus : Prop :=
  ∀ (s : State) (req : Request) (noise : Noise), s.host.call = none → (7 < req.command ∨ 15 < req.data) →
    runEvents [.host req noise] s = .next
      { s with host := ⟨none, 0, some .invalidArgument⟩, reply := none }

/-- R203: the pair the host reads is accepted exactly when it passes the integrity check and its status is not 0x00, and an
accepted reply ends the call with Ok of that status. The host reads the device's reply with the bits the bus flips. -/
def Obligations.FirstAcceptedReplyEndsCall : Prop :=
  ∀ (s : State) (req : Request) (noise : Noise) (c : HostCall), s.host.call = some c → 1 ≤ c.attemptsRemaining →
    (c.addr = 0x20 ∨ c.addr = 0x24) → ∃ t r, runEvents [.host req noise] s = .next t ∧ t.reply = some r
      ∧ (∀ st, t.host.result = some (.ok st) ↔
          (r.byte1 ^^^ noise.byte1 = ~~~(r.byte0 ^^^ noise.byte0) ∧ r.byte0 ^^^ noise.byte0 ≠ 0#8
            ∧ st = r.byte0 ^^^ noise.byte0))
      ∧ (r.byte1 ^^^ noise.byte1 = ~~~(r.byte0 ^^^ noise.byte0) ∧ r.byte0 ^^^ noise.byte0 ≠ 0#8 → t.host.call = none)

/-- R204: an attempt whose reply is not accepted issues one transaction and spends one attempt; when it was the last, the call
fails with Exhausted and has then issued exactly `MAX_ATTEMPTS` transactions, and else it stays in progress. -/
def Obligations.UnacceptedReplySpendsOneAttempt : Prop :=
  ∀ (s : State) (req : Request) (noise : Noise) (c : HostCall), s.Inv → s.host.call = some c →
    (c.addr = 0x20 ∨ c.addr = 0x24) → ∃ t r, runEvents [.host req noise] s = .next t ∧ t.reply = some r
      ∧ (¬(r.byte1 ^^^ noise.byte1 = ~~~(r.byte0 ^^^ noise.byte0) ∧ r.byte0 ^^^ noise.byte0 ≠ 0#8) →
        t.host.issued = s.host.issued + 1
          ∧ (c.attemptsRemaining = 1 → t.host.call = none ∧ t.host.result = some .exhausted
              ∧ t.host.issued = s.params.maxAttempts.val)
          ∧ (c.attemptsRemaining ≠ 1 →
              t.host.call = some ⟨c.addr, c.frame, c.attemptsRemaining - 1⟩ ∧ t.host.result = none))

/-- The source's property in R204 and 95_test_vectors.md S6: with replies that are always corrupted so that the two bytes are no
longer complementary, a call issues one transaction at each attempt, stays in progress while fewer than `MAX_ATTEMPTS` have
been issued, and fails with Exhausted after exactly `MAX_ATTEMPTS`. -/
def Obligations.ExhaustedAfterExactlyMaxAttempts : Prop :=
  ∀ (s : State) (req : Request) (first : Noise) (noises : List Noise), s.host.call = none →
    sendRefuses s.params req = false → (req.addr = 0x20 ∨ req.addr = 0x24) →
    (∀ n ∈ noises, n.byte0 ≠ n.byte1) → noises.length ≤ s.params.maxAttempts.val →
    ∃ t, runEvents (.host req first :: noises.map (.host req)) s = .next t
      ∧ t.host.issued = noises.length
      ∧ (noises.length < s.params.maxAttempts.val → t.host.call.isSome = true ∧ t.host.result = none)
      ∧ (noises.length = s.params.maxAttempts.val → t.host.call = none ∧ t.host.result = some .exhausted)

/-- R207: where the host does not check it, an LEV.SET with a value outside 1, 2 and 3 is rejected by the device at every
attempt over a clean bus: the call ends Exhausted after `MAX_ATTEMPTS` transactions and the devices are as they were. -/
def Obligations.RejectedLeverSetExhausts : Prop :=
  ∀ (s : State) (data : Nat), s.host.call = none → s.params.hostPrevalidateLeverSet = false → data ≤ 15 →
    ¬(1 ≤ data ∧ data ≤ 3) →
    ∃ t, runEvents (List.replicate (s.params.maxAttempts.val + 1) (.host ⟨0x24, 2, data⟩ clean)) s = .next t
      ∧ t.host.result = some .exhausted ∧ t.host.issued = s.params.maxAttempts.val ∧ t.host.call = none
      ∧ t.lev = s.lev ∧ t.ind = s.ind

/-- R211: over a clean bus, `send(SET_STATE, 0x2)` and then `send(GET_STATE)` to the indicator return a status whose low 3
bits are 2 and whose blink bit is clear. Rests on the spec's decisions D9 for the place of that bit
and D8 for the reply of the set (log entries 8, 9). -/
def Obligations.SetThenGetEndToEnd : Prop :=
  ∀ s : State, s.host.call = none →
    ∃ t st, runEvents [.host ⟨0x20, 2, 2⟩ clean, .host ⟨0x20, 2, 2⟩ clean, .host ⟨0x20, 1, 0⟩ clean,
        .host ⟨0x20, 1, 0⟩ clean] s = .next t
      ∧ t.host.result = some (.ok st) ∧ st.extractLsb' 0 3 = 2#3 ∧ st.getLsbD 3 = false

/-- R202, the lines of `send` before its loop: for a host in no call, a request fails at once with InvalidArgument exactly if a
width check fails (R201) or the host checks lever set-status values itself and this is one outside 1, 2 and 3 (R207); else the
call begins with the encoded frame and the whole budget. Either way no transaction is issued in that turn, there is no reply,
and everything else is as it was. The host's own check is the spec's OPEN parameter of D34; the cut of `send` into turns is the
model's own (log entries 2, 22). -/
def Obligations.SendChecksThenBeginsTheCall : Prop :=
  ∀ (s : State) (req : Request) (noise : Noise), s.host.call = none →
    runEvents [.host req noise] s = .next
      { s with
        host :=
          if 7 < req.command ∨ 15 < req.data
              ∨ (s.params.hostPrevalidateLeverSet = true ∧ req.addr = 0x24 ∧ req.command = 2
                ∧ ¬(1 ≤ req.data ∧ req.data ≤ 3)) then
            ⟨none, 0, some .invalidArgument⟩
          else
            ⟨some ⟨req.addr, encodeFrame (BitVec.ofNat 3 req.command) (BitVec.ofNat 4 req.data),
              s.params.maxAttempts.val⟩, 0, none⟩
        reply := none }
end

