-- ==== Sys2Proof/Laws/Codec.lean ====
section
/-! SUPPORT. Small facts about the codec and the operand decoders that the proofs about frames cite. -/

namespace Sys2Proof

/-- Decoding gives the two fields of a legal frame. -/
theorem decodeFrame_of_legal {b : Byte} (h : legalFrame b = true) :
    decodeFrame b = .ok (frameCommand b, frameData b) := by simp [decodeFrame, h]

/-- A frame that is not legal is a parity error. -/
theorem decodeFrame_of_not_legal {b : Byte} (h : legalFrame b = false) :
    decodeFrame b = .error .parityError := by simp [decodeFrame, h]

/-- What decoding on a device can answer: the parity error for an illegal frame, else the instruction the command map
names. -/
theorem decodeInstr_cases (dev : Device) (b : Byte) :
    (legalFrame b = false ∧ decodeInstr dev b = .error .parityError)
      ∨ (legalFrame b = true ∧ decodeInstr dev b = .ok (instrOf dev (frameCommand b) (frameData b))) := by
  cases h : legalFrame b
  · exact .inl ⟨rfl, by simp [decodeInstr, decodeFrame_of_not_legal h]⟩
  · exact .inr ⟨rfl, by simp [decodeInstr, decodeFrame_of_legal h]⟩

/-- The command map names a command of the device it is asked for. -/
theorem instrOf_device (dev : Device) (c : Command) (d : Data) : (instrOf dev c d).device = dev := by
  unfold instrOf
  split <;> rfl

/-- A decoded instruction is a command of the device that decoded it (R83). -/
theorem device_of_decodeInstr {dev : Device} {b : Byte} {i : Instr} (h : decodeInstr dev b = .ok i) :
    i.device = dev := by
  obtain ⟨-, h'⟩ | ⟨-, h'⟩ := decodeInstr_cases dev b
  · rw [h'] at h; cases h
  · rw [h'] at h; cases h; exact instrOf_device ..

/-- The two devices answer at the two addresses of R61 and nowhere else. -/
theorem ofAddress_eq_some {a : BusAddress} {dev : Device} : Device.ofAddress a = some dev ↔ a = dev.address := by
  unfold Device.ofAddress Device.address Config.indAddr Config.levAddr
  cases dev <;> (split <;> [skip; split]) <;> simp_all

/-- No device answers at an address exactly when it is neither of the two (R63). -/
theorem ofAddress_eq_none {a : BusAddress} : Device.ofAddress a = none ↔ a ≠ 0x20 ∧ a ≠ 0x24 := by
  unfold Device.ofAddress Config.indAddr Config.levAddr
  split <;> [skip; split] <;> simp_all

end Sys2Proof
end

