-- ==== Sys2Proof/Laws/State.lean ====
section
/-! SUPPORT. What each update of the state does to each of its fields, one lemma for each pair, and which event a step
takes. -/

namespace Sys2Proof.Machine

variable (s : State)

@[simp] theorem withReply_params (r : Reply) : (s.withReply r).params = s.params := rfl
@[simp] theorem withReply_ind (r : Reply) : (s.withReply r).ind = s.ind := rfl
@[simp] theorem withReply_lev (r : Reply) : (s.withReply r).lev = s.lev := rfl
@[simp] theorem withReply_pins (r : Reply) : (s.withReply r).pins = s.pins := rfl
@[simp] theorem withReply_host (r : Reply) : (s.withReply r).host = s.host := rfl
@[simp] theorem withReply_reply (r : Reply) : (s.withReply r).reply = some r := rfl
@[simp] theorem withReply_schedule (r : Reply) : (s.withReply r).schedule = s.schedule := rfl
@[simp] theorem withReply_draws (r : Reply) : (s.withReply r).draws = s.draws := rfl

@[simp] theorem clearReply_params : (s.clearReply).params = s.params := rfl
@[simp] theorem clearReply_ind : (s.clearReply).ind = s.ind := rfl
@[simp] theorem clearReply_lev : (s.clearReply).lev = s.lev := rfl
@[simp] theorem clearReply_pins : (s.clearReply).pins = s.pins := rfl
@[simp] theorem clearReply_host : (s.clearReply).host = s.host := rfl
@[simp] theorem clearReply_reply : (s.clearReply).reply = none := rfl
@[simp] theorem clearReply_schedule : (s.clearReply).schedule = s.schedule := rfl
@[simp] theorem clearReply_draws : (s.clearReply).draws = s.draws := rfl

@[simp] theorem setInd_params (d : IndicatorState) : (s.setInd d).params = s.params := rfl
@[simp] theorem setInd_ind (d : IndicatorState) : (s.setInd d).ind = d := rfl
@[simp] theorem setInd_lev (d : IndicatorState) : (s.setInd d).lev = s.lev := rfl
@[simp] theorem setInd_pins (d : IndicatorState) : (s.setInd d).pins = s.pins := rfl
@[simp] theorem setInd_host (d : IndicatorState) : (s.setInd d).host = s.host := rfl
@[simp] theorem setInd_reply (d : IndicatorState) : (s.setInd d).reply = s.reply := rfl
@[simp] theorem setInd_schedule (d : IndicatorState) : (s.setInd d).schedule = s.schedule := rfl
@[simp] theorem setInd_draws (d : IndicatorState) : (s.setInd d).draws = s.draws := rfl

@[simp] theorem setLev_params (d : LeverState) : (s.setLev d).params = s.params := rfl
@[simp] theorem setLev_ind (d : LeverState) : (s.setLev d).ind = s.ind := rfl
@[simp] theorem setLev_lev (d : LeverState) : (s.setLev d).lev = d := rfl
@[simp] theorem setLev_pins (d : LeverState) : (s.setLev d).pins = s.pins := rfl
@[simp] theorem setLev_host (d : LeverState) : (s.setLev d).host = s.host := rfl
@[simp] theorem setLev_reply (d : LeverState) : (s.setLev d).reply = s.reply := rfl
@[simp] theorem setLev_schedule (d : LeverState) : (s.setLev d).schedule = s.schedule := rfl
@[simp] theorem setLev_draws (d : LeverState) : (s.setLev d).draws = s.draws := rfl

@[simp] theorem setPins_params (p : Pins) : (s.setPins p).params = s.params := rfl
@[simp] theorem setPins_ind (p : Pins) : (s.setPins p).ind = s.ind := rfl
@[simp] theorem setPins_lev (p : Pins) : (s.setPins p).lev = s.lev := rfl
@[simp] theorem setPins_pins (p : Pins) : (s.setPins p).pins = p := rfl
@[simp] theorem setPins_host (p : Pins) : (s.setPins p).host = s.host := rfl
@[simp] theorem setPins_reply (p : Pins) : (s.setPins p).reply = s.reply := rfl
@[simp] theorem setPins_schedule (p : Pins) : (s.setPins p).schedule = s.schedule := rfl
@[simp] theorem setPins_draws (p : Pins) : (s.setPins p).draws = s.draws := rfl

@[simp] theorem setHost_params (h : HostState) : (s.setHost h).params = s.params := rfl
@[simp] theorem setHost_ind (h : HostState) : (s.setHost h).ind = s.ind := rfl
@[simp] theorem setHost_lev (h : HostState) : (s.setHost h).lev = s.lev := rfl
@[simp] theorem setHost_pins (h : HostState) : (s.setHost h).pins = s.pins := rfl
@[simp] theorem setHost_host (h : HostState) : (s.setHost h).host = h := rfl
@[simp] theorem setHost_reply (h : HostState) : (s.setHost h).reply = s.reply := rfl
@[simp] theorem setHost_schedule (h : HostState) : (s.setHost h).schedule = s.schedule := rfl
@[simp] theorem setHost_draws (h : HostState) : (s.setHost h).draws = s.draws := rfl

@[simp] theorem schedulePush_params (e : Event) : (s.schedulePush e).params = s.params := rfl
@[simp] theorem schedulePush_ind (e : Event) : (s.schedulePush e).ind = s.ind := rfl
@[simp] theorem schedulePush_lev (e : Event) : (s.schedulePush e).lev = s.lev := rfl
@[simp] theorem schedulePush_pins (e : Event) : (s.schedulePush e).pins = s.pins := rfl
@[simp] theorem schedulePush_host (e : Event) : (s.schedulePush e).host = s.host := rfl
@[simp] theorem schedulePush_reply (e : Event) : (s.schedulePush e).reply = s.reply := rfl
@[simp] theorem schedulePush_schedule (e : Event) : (s.schedulePush e).schedule = e :: s.schedule := rfl
@[simp] theorem schedulePush_draws (e : Event) : (s.schedulePush e).draws = s.draws := rfl

@[simp] theorem takeEvent_params : s.takeEvent.2.params = s.params := by unfold State.takeEvent; split <;> rfl
@[simp] theorem takeEvent_ind : s.takeEvent.2.ind = s.ind := by unfold State.takeEvent; split <;> rfl
@[simp] theorem takeEvent_lev : s.takeEvent.2.lev = s.lev := by unfold State.takeEvent; split <;> rfl
@[simp] theorem takeEvent_pins : s.takeEvent.2.pins = s.pins := by unfold State.takeEvent; split <;> rfl
@[simp] theorem takeEvent_host : s.takeEvent.2.host = s.host := by unfold State.takeEvent; split <;> rfl

/-- Where an event is laid down, the step takes it and leaves the rest (R68). -/
theorem takeEvent_of_schedule {s : State} {e : Event} {rest : List Event} (h : s.schedule = e :: rest) :
    s.takeEvent = (e, { s with schedule := rest }) := by
  simp [State.takeEvent, h]

/-- Where none is laid down, the environment chooses (R231). -/
theorem takeEvent_of_empty {s : State} (h : s.schedule = []) :
    s.takeEvent = (Config.environment s.draws, { s with draws := s.draws + 1 }) := by
  simp [State.takeEvent, h]

end Sys2Proof.Machine
end

