-- ==== Sys2Proof/Laws/Ops.lean ====
section
/-! SUPPORT. One lemma for each shared operation of the machine that says what it can do, so that a proof cites it and does
not unfold the operation: the frame step, the transaction, the host's turn, an event, a step, and a run of ticks. -/

namespace Sys2Proof.Machine

/-- A frame that is not executed leaves everything but the reply (R222). -/
theorem notExecuted_eq (s : State) : notExecuted s = .next (s.withReply ⟨0x00#8, 0xFF#8⟩) := rfl

/-- What `exec` can do: it always answers a next state, with a packed status as its reply, and writes only the registers of
the instruction's own device (R42, R223). -/
theorem exec_cases (i : Instr) (s : State) :
    (i.device = .ind ∧ ∃ d st, exec i s = .next ((s.setInd d).withReply (packResponse st)))
      ∨ (i.device = .lev ∧ ∃ d st, exec i s = .next ((s.setLev d).withReply (packResponse st))) := by
  cases i with
  | levSet value =>
    refine .inr ⟨rfl, ?_⟩
    simp only [exec, execLevSet]
    split
    · exact ⟨_, _, rfl⟩
    · exact ⟨s.lev, _, rfl⟩
  | indReset | indSet => exact .inl ⟨rfl, _, _, rfl⟩
  | indGet | indRsvd3 | indRsvd4 | indRsvd5 | indRsvd6 | indRsvd7 => exact .inl ⟨rfl, s.ind, _, rfl⟩
  | levReset => exact .inr ⟨rfl, _, _, rfl⟩
  | levGet | levRsvd3 | levRsvd4 | levRsvd5 | levRsvd6 | levRsvd7 => exact .inr ⟨rfl, s.lev, _, rfl⟩

/-- What a device's frame step can do (R137, R161): a parity error leaves everything but the reply, and a decoded
instruction is executed. -/
theorem serveFrame_cases (dev : Device) (b : Byte) (s : State) :
    (decodeInstr dev b = .error .parityError ∧ serveFrame dev b s = notExecuted s)
      ∨ ∃ i, decodeInstr dev b = .ok i ∧ i.device = dev ∧ serveFrame dev b s = exec i s := by
  obtain ⟨-, h⟩ | ⟨-, h⟩ := decodeInstr_cases dev b
  · exact .inl ⟨h, by simp [serveFrame, h]⟩
  · exact .inr ⟨_, h, device_of_decodeInstr h, by simp [serveFrame, h]⟩

/-- The frame step of the indicator always answers, and writes only the indicator and the reply. -/
theorem serveFrame_ind (b : Byte) (s : State) :
    ∃ d st, serveFrame .ind b s = .next ((s.setInd d).withReply (packResponse st)) := by
  obtain ⟨-, h⟩ | ⟨i, -, hd, h⟩ := serveFrame_cases .ind b s
  · exact ⟨s.ind, 0#8, h⟩
  · obtain ⟨-, d, st, h'⟩ | ⟨hl, -⟩ := exec_cases i s
    · exact ⟨d, st, h.trans h'⟩
    · rw [hd] at hl; cases hl

/-- The frame step of the lever always answers, and writes only the lever and the reply. -/
theorem serveFrame_lev (b : Byte) (s : State) :
    ∃ d st, serveFrame .lev b s = .next ((s.setLev d).withReply (packResponse st)) := by
  obtain ⟨-, h⟩ | ⟨i, -, hd, h⟩ := serveFrame_cases .lev b s
  · exact ⟨s.lev, 0#8, h⟩
  · obtain ⟨hl, -⟩ | ⟨-, d, st, h'⟩ := exec_cases i s
    · rw [hd] at hl; cases hl
    · exact ⟨d, st, h.trans h'⟩

/-- What a transaction can do (R62, R63): the device at the address serves the frame, or no device is there and the model
refuses. -/
theorem transact_cases (a : BusAddress) (b : Byte) (s : State) :
    (a = 0x20 ∧ transact a b s = serveFrame .ind b s) ∨ (a = 0x24 ∧ transact a b s = serveFrame .lev b s)
      ∨ (a ≠ 0x20 ∧ a ≠ 0x24 ∧ transact a b s = .refused (.noDeviceAtAddress a)) := by
  cases h : Device.ofAddress a with
  | none => exact .inr (.inr ⟨(ofAddress_eq_none.1 h).1, (ofAddress_eq_none.1 h).2, by simp [transact, h]⟩)
  | some dev =>
    have ha := ofAddress_eq_some.1 h
    cases dev
    · exact .inl ⟨ha, by simp [transact, h]⟩
    · exact .inr (.inl ⟨ha, by simp [transact, h]⟩)

/-- What one attempt of a call can do (R202): with no attempt left it only ends the call; else it is a transaction, and the
host's state is what the pair read makes of it. -/
theorem attempt_cases (c : HostCall) (n : Noise) (s : State) :
    (c.attemptsRemaining = 0
        ∧ attempt c n s = .next (s.setHost { s.host with call := none, result := some .exhausted }))
      ∨ ∃ left, c.attemptsRemaining = left + 1 ∧
        ((∃ t, transact c.addr (c.frame ^^^ n.frame) s = .next t ∧
            attempt c n s
              = .next (t.setHost (afterAttempt c left s.host.issued (t.reply.map (corruptReply n)))))
          ∨ (transact c.addr (c.frame ^^^ n.frame) s = .refused (.noDeviceAtAddress c.addr) ∧
            attempt c n s = .refused (.noDeviceAtAddress c.addr))) := by
  cases hk : c.attemptsRemaining with
  | zero => exact .inl ⟨rfl, by simp [attempt, hk]⟩
  | succ left =>
    refine .inr ⟨left, rfl, ?_⟩
    obtain ⟨-, h⟩ | ⟨-, h⟩ | ⟨-, -, h⟩ := transact_cases c.addr (c.frame ^^^ n.frame) s
    · obtain ⟨d, st, h'⟩ := serveFrame_ind (c.frame ^^^ n.frame) s
      exact .inl ⟨_, h.trans h', by simp [attempt, hk, h.trans h']⟩
    · obtain ⟨d, st, h'⟩ := serveFrame_lev (c.frame ^^^ n.frame) s
      exact .inl ⟨_, h.trans h', by simp [attempt, hk, h.trans h']⟩
    · exact .inr ⟨h, by simp [attempt, hk, h]⟩

/-- A step performs the event it takes, on the state without it and without the reply of the step before. -/
theorem step_eq (s : State) : step s = perform s.takeEvent.1 s.takeEvent.2.clearReply := rfl

/-- The step of an event that is laid down. -/
theorem step_of_schedule {s : State} {e : Event} {rest : List Event} (h : s.schedule = e :: rest) :
    step s = perform e { s with schedule := rest, reply := none } := by
  rw [step_eq, takeEvent_of_schedule h]; rfl

/-- A run over no event takes no step. -/
theorem runEvents_nil (s : State) : runEvents [] s = .next s := rfl

/-- The first step of a run, where its event answers a next state that keeps the events to come. -/
theorem runEvents_cons {e : Event} {es : List Event} {s t : State}
    (h : perform e { s with schedule := es ++ s.schedule, reply := none } = .next { t with schedule := es ++ t.schedule }) :
    runEvents (e :: es) s = runEvents es t := by
  have hs : step { s with schedule := e :: es ++ s.schedule } = .next { t with schedule := es ++ t.schedule } :=
    (step_of_schedule (s := { s with schedule := e :: es ++ s.schedule }) (rest := es ++ s.schedule) rfl).trans h
  show Host.Core.run Sys2Proof.core (es.length + 1) _ = _
  simp only [Host.Core.run, Sys2Proof.core, hs]
  rfl

/-- A run that begins with a tick. -/
theorem runEvents_tick (dev : Device) (es : List Event) (s : State) :
    runEvents (.tick dev :: es) s = runEvents es (tickDevice dev s).clearReply :=
  runEvents_cons (by cases dev <;> rfl)

/-- A run that begins with a change of the lever's lines. -/
theorem runEvents_pins (o c : Bool) (es : List Event) (s : State) :
    runEvents (.pins o c :: es) s = runEvents es (s.setPins ⟨o, c⟩).clearReply :=
  runEvents_cons rfl

/-- A run of ticks, one tick at a time. -/
theorem runTicks_succ (dev : Device) (k : Nat) (s : State) :
    runTicks dev (k + 1) s = runTicks dev k (tickDevice dev s).clearReply :=
  runEvents_tick dev _ s

/-- The indicator after `k` ticks: its tick function applied `k` times. -/
theorem runTicks_ind (k : Nat) (s : State) :
    ∃ t, runTicks .ind k s = .next t ∧ t.ind = (indTick s.params)^[k] s.ind ∧ t.params = s.params ∧ t.lev = s.lev := by
  induction k generalizing s with
  | zero => exact ⟨s, rfl, rfl, rfl, rfl⟩
  | succ k ih =>
    obtain ⟨t, h, hi, hp, hl⟩ := ih (tickDevice .ind s).clearReply
    exact ⟨t, (runTicks_succ ..).trans h, hi, hp, hl⟩

/-- The lever after `k` ticks with its lines unchanged: its tick function applied `k` times. -/
theorem runTicks_lev (k : Nat) (s : State) :
    ∃ t, runTicks .lev k s = .next t ∧ t.lev = (levTick s.params s.pins)^[k] s.lev ∧ t.params = s.params
      ∧ t.ind = s.ind := by
  induction k generalizing s with
  | zero => exact ⟨s, rfl, rfl, rfl, rfl⟩
  | succ k ih =>
    obtain ⟨t, h, hi, hp, hl⟩ := ih (tickDevice .lev s).clearReply
    exact ⟨t, (runTicks_succ ..).trans h, hi, hp, hl⟩

end Sys2Proof.Machine
end

