-- ==== Sys2Proof/Laws/Devices.lean ====
section
/-! SUPPORT. What the shared operations of the two devices' ticks and of the host's turn can do, one lemma each. -/

namespace Sys2Proof

/-- A threshold counts at least one tick (R8). -/
theorem Threshold.one_le (n : Threshold) : 1 ≤ n.val.toNat := by
  have h : n.val.toNat ≠ 0 := fun h => n.pos (BitVec.eq_of_toNat_eq (by simpa using h))
  omega

namespace Machine

/-- The attention hold countdown writes the line and its timer only (R171). -/
theorem attnCountdown_keeps (h : AttnHold) (d : LeverState) :
    (attnCountdown h d).status = d.status ∧ (attnCountdown h d).prev = d.prev ∧ (attnCountdown h d).cnt = d.cnt := by
  unfold attnCountdown
  split <;> [skip; split] <;> simp

/-- The countdown leaves a released line and its timer alone. -/
theorem attnCountdown_of_released (h : AttnHold) {d : LeverState} (hd : d.attn = false) : attnCountdown h d = d := by
  unfold attnCountdown
  split <;> simp [hd]

/-- Asserting attention sets the line and writes nothing but the line and its timer (R172). -/
theorem attnAssert_keeps (h : AttnHold) (d : LeverState) :
    (attnAssert h d).attn = true ∧ (attnAssert h d).status = d.status ∧ (attnAssert h d).prev = d.prev
      ∧ (attnAssert h d).cnt = d.cnt := by
  unfold attnAssert
  split <;> simp

/-- What a commit can do (R172): nothing, or the status of a clean pattern that differs from the one held is written and
attention is asserted. -/
theorem commit_cases (h : AttnHold) (q : Pattern) (d : LeverState) :
    ((statusOfPattern q = none ∨ statusOfPattern q = some d.status) ∧ commit h q d = d)
      ∨ ∃ st, statusOfPattern q = some st ∧ st ≠ d.status ∧ commit h q d = attnAssert h { d with status := st } := by
  unfold commit
  split
  · rename_i st hst
    split
    · exact .inl ⟨.inr (by simp [*]), rfl⟩
    · exact .inr ⟨st, hst, ‹_›, rfl⟩
  · exact .inl ⟨.inl ‹_›, rfl⟩

/-- What the latch and the counter can do (R171): latch a changed pattern, count down, or reload and commit. -/
theorem debounce_cases (p : Params) (q : Pattern) (d : LeverState) :
    (q ≠ d.prev ∧ debounce p q d = { d with prev := q, cnt := p.debounceThreshold.val })
      ∨ (q = d.prev ∧ d.cnt - 1#8 ≠ 0#8 ∧ debounce p q d = { d with cnt := d.cnt - 1#8 })
      ∨ (q = d.prev ∧ d.cnt - 1#8 = 0#8
          ∧ debounce p q d = commit p.attnHold q { d with cnt := p.debounceThreshold.val }) := by
  by_cases hq : q = d.prev
  · by_cases hk : d.cnt - 1#8 = 0#8
    · exact .inr (.inr ⟨hq, hk, by simp only [debounce, if_pos hq, if_pos hk]⟩)
    · exact .inr (.inl ⟨hq, hk, by simp only [debounce, if_pos hq, if_neg hk]⟩)
  · exact .inl ⟨hq, by simp only [debounce, if_neg hq]⟩

/-- A lever tick always leaves the sample it took in the latch (R35). -/
theorem levTick_prev (p : Params) (pins : Pins) (d : LeverState) : (levTick p pins d).prev = samplePins pins := by
  unfold levTick
  obtain ⟨-, h⟩ | ⟨hq, -, h⟩ | ⟨hq, -, h⟩ := debounce_cases p (samplePins pins) (attnCountdown p.attnHold d)
  · rw [h]
  · rw [h, hq]
  · rw [h]
    obtain ⟨-, h'⟩ | ⟨st, -, -, h'⟩ := commit_cases p.attnHold (samplePins pins)
      { attnCountdown p.attnHold d with cnt := p.debounceThreshold.val }
    · rw [h', hq]
    · rw [h', (attnAssert_keeps ..).2.2.1, hq]

/-- An indicator tick keeps the colour and the blink flag (R24). -/
theorem indTick_keeps (p : Params) (d : IndicatorState) :
    (indTick p d).color = d.color ∧ (indTick p d).blink = d.blink := ⟨rfl, rfl⟩

/-- A reply is accepted exactly when its bytes are complementary and its status is not the zero sentinel (R203). -/
theorem acceptReply_eq_some {r : Reply} {st : Byte} :
    acceptReply r = some st ↔ r.byte1 = ~~~r.byte0 ∧ r.byte0 ≠ 0x00#8 ∧ st = r.byte0 := by
  simp only [acceptReply, unpackResponse]
  by_cases h : r.byte1 = ~~~r.byte0
  · by_cases h0 : r.byte0 = 0#8
    · simp [h, h0]
    · simp [h, h0, eq_comm]
  · simp [h]

/-- What the first lines of `send` can leave (R201, R202): the call has failed, or it is in progress with its whole budget. -/
theorem beginCall_cases (p : Params) (r : Request) :
    (sendRefuses p r = true ∧ beginCall p r = ⟨none, 0, some .invalidArgument⟩)
      ∨ (sendRefuses p r = false ∧ beginCall p r =
          ⟨some ⟨r.addr, encodeFrame (BitVec.ofNat 3 r.command) (BitVec.ofNat 4 r.data), p.maxAttempts.val⟩, 0, none⟩) := by
  cases h : sendRefuses p r <;> simp [beginCall, h]

end Machine

end Sys2Proof
end

