-- ==== Sys2Proof/Laws/PerInstr.lean ====
section
/-! SUPPORT. What holds of every instruction as syntax, one lemma for each constructor. The family `EvenWeight`: the frame of
an instruction, parity bit included, has an even number of one bits (40_frame_codec.md R100 and 90_conflicts.md C1). -/

namespace Sys2Proof.Laws.EvenWeight

/-- The number of one bits of a byte. -/
def weight (b : Byte) : Nat := ((List.range 8).filter fun k => b.getLsbD k).length

/-- Every frame of every command and data field has even weight. -/
theorem weight_encodeFrame : ∀ (c : Command) (d : Data), weight (encodeFrame c d) % 2 = 0 := by decide

/-- The frame of the instruction has even weight. -/
def Statement (i : Instr) : Prop := weight (encode i) % 2 = 0

theorem indReset (data : Data) : Statement (.indReset data) := weight_encodeFrame ..
theorem indGet (data : Data) : Statement (.indGet data) := weight_encodeFrame ..
theorem indSet (blink : Bool) (color : Color) : Statement (.indSet blink color) := weight_encodeFrame ..
theorem indRsvd3 (data : Data) : Statement (.indRsvd3 data) := weight_encodeFrame ..
theorem indRsvd4 (data : Data) : Statement (.indRsvd4 data) := weight_encodeFrame ..
theorem indRsvd5 (data : Data) : Statement (.indRsvd5 data) := weight_encodeFrame ..
theorem indRsvd6 (data : Data) : Statement (.indRsvd6 data) := weight_encodeFrame ..
theorem indRsvd7 (data : Data) : Statement (.indRsvd7 data) := weight_encodeFrame ..
theorem levReset (data : Data) : Statement (.levReset data) := weight_encodeFrame ..
theorem levGet (data : Data) : Statement (.levGet data) := weight_encodeFrame ..
theorem levSet (value : Data) : Statement (.levSet value) := weight_encodeFrame ..
theorem levRsvd3 (data : Data) : Statement (.levRsvd3 data) := weight_encodeFrame ..
theorem levRsvd4 (data : Data) : Statement (.levRsvd4 data) := weight_encodeFrame ..
theorem levRsvd5 (data : Data) : Statement (.levRsvd5 data) := weight_encodeFrame ..
theorem levRsvd6 (data : Data) : Statement (.levRsvd6 data) := weight_encodeFrame ..
theorem levRsvd7 (data : Data) : Statement (.levRsvd7 data) := weight_encodeFrame ..

end Sys2Proof.Laws.EvenWeight
end

