-- ==== Sys2Proof/Tests/Slice0.lean ====
section
/-! SUPPORT. The model's own tests. Expected values are those of spec/95_test_vectors.md (named in each docstring) or are
worked out by hand from the rule named; then the witnesses that the hypotheses of the statements can be met. -/

namespace Sys2Proof.Tests

open Sys2Proof.Machine Sys2Proof.Claims

/-! ## Small states -/

/-- Parameters with given thresholds, hold and re-drive; the budget is 3 as in the vectors of section 7. The pin map drives three
lines with the bits of the colour code, so that no two of its rows are equal. -/
def params (tb td : Threshold) (hold : AttnHold) (redrive : IndRedrive) (prevalidate : Bool) : Params where
  blinkThreshold := tb
  debounceThreshold := td
  attnHold := hold
  indRedrive := redrive
  indOutEnAtStart := false
  colorPinMap := Vector.ofFn fun c => (List.range 3).map c.val.testBit
  maxAttempts := { val := 3 }
  hostPrevalidateLeverSet := prevalidate

/-- The parameters most vectors use: `Tb = 3`, `Td = 3`, `UntilReset`, `OnSetState`. -/
def p3 : Params := params { val := 3#8 } { val := 3#8 } .untilReset .onSetState false

/-- `ATTN_HOLD = Ticks(2)` and `IND_REDRIVE = OnTick`, with `Td = 2`. -/
def pTicks : Params := params { val := 3#8 } { val := 2#8 } (.ticks { val := 2#8 }) .onTick true

/-- A machine at power-up with the lines at `PINS o, c`. -/
def at0 (p : Params) (o c : Bool) : State := State.powerUp p ⟨o, c⟩

/-- An indicator state written as the vectors write it: color/blink/phase/cnt/led_out/out_en. -/
def ind (c : Color) (b ph : Bool) (n : Byte) (l : Color) (e : Bool) : IndicatorState := ⟨c, b, ph, n, l, e⟩

/-- The next state of an outcome, if it is one. -/
def next? (o : Host.Outcome State Fault Refusal) : Option State :=
  match o with
  | .next s => some s
  | _ => none

/-- The reply and the indicator after an instruction. -/
def indAfter (i : Instr) (s : State) : Option (Option Reply × IndicatorState) := (next? (exec i s)).map fun t => (t.reply, t.ind)

/-- The reply and the lever after an instruction. -/
def levAfter (i : Instr) (s : State) : Option (Option Reply × LeverState) := (next? (exec i s)).map fun t => (t.reply, t.lev)

/-! ## Well-formedness: an ill-formed term for each check -/

theorem test_command_8_refused : Request.commandFits ⟨0x20, 8, 0⟩ = false := by decide
theorem test_data_16_refused : Request.dataFits ⟨0x20, 2, 16⟩ = false := by decide
theorem test_request_8_0_ill_formed : Request.wellFormed ⟨0x20, 8, 0⟩ = false := by decide
theorem test_address_0x22_ill_formed : BusAddress.wellFormed 0x22 = false := by decide
theorem test_request_well_formed : Request.wellFormed ⟨0x24, 7, 15⟩ = true := by decide
/-- No instruction is ill formed: its fields have the widths of the ports (R102). -/
theorem test_instr_well_formed : (Instr.levSet 15#4).wellFormed = true := by decide

/-! ## Decoding: a word for each constructor, from R80, R83 and the frames of R131 to R134 and R163 to R167 -/

theorem test_decode_ind_reset : decodeInstr .ind 0b1_000_0001#8 = .ok (.indReset 1#4) := by decide
theorem test_decode_ind_get : decodeInstr .ind 0b1_001_0101#8 = .ok (.indGet 5#4) := by decide
theorem test_decode_ind_set : decodeInstr .ind 0b1_010_1010#8 = .ok (.indSet true 2#3) := by decide
theorem test_decode_ind_rsvd3 : decodeInstr .ind 0b1_011_0001#8 = .ok (.indRsvd3 1#4) := by decide
theorem test_decode_ind_rsvd4 : decodeInstr .ind 0b1_100_0000#8 = .ok (.indRsvd4 0#4) := by decide
theorem test_decode_ind_rsvd5 : decodeInstr .ind 0b0_101_0000#8 = .ok (.indRsvd5 0#4) := by decide
theorem test_decode_ind_rsvd6 : decodeInstr .ind 0b1_110_0010#8 = .ok (.indRsvd6 2#4) := by decide
theorem test_decode_ind_rsvd7 : decodeInstr .ind 0b1_111_1111#8 = .ok (.indRsvd7 15#4) := by decide
theorem test_decode_lev_reset : decodeInstr .lev 0b0_000_1001#8 = .ok (.levReset 9#4) := by decide
theorem test_decode_lev_get : decodeInstr .lev 0b1_001_0000#8 = .ok (.levGet 0#4) := by decide
theorem test_decode_lev_set : decodeInstr .lev 0b1_010_0101#8 = .ok (.levSet 5#4) := by decide
theorem test_decode_lev_rsvd3 : decodeInstr .lev 0b0_011_0000#8 = .ok (.levRsvd3 0#4) := by decide
theorem test_decode_lev_rsvd4 : decodeInstr .lev 0b1_100_0011#8 = .ok (.levRsvd4 3#4) := by decide
theorem test_decode_lev_rsvd5 : decodeInstr .lev 0b1_101_0001#8 = .ok (.levRsvd5 1#4) := by decide
theorem test_decode_lev_rsvd6 : decodeInstr .lev 0b1_110_0001#8 = .ok (.levRsvd6 1#4) := by decide
theorem test_decode_lev_rsvd7 : decodeInstr .lev 0b1_111_0000#8 = .ok (.levRsvd7 0#4) := by decide

/-- V-C3: the parity-invalid bytes of the table. -/
theorem test_decode_parity_errors :
    ∀ b ∈ [0x80#8, 0x01#8, 0xA2#8, 0x23#8, 0xAD#8, 0x13#8, 0x7F#8, 0xFE#8],
      decodeInstr .ind b = .error .parityError ∧ decodeInstr .lev b = .error .parityError := by decide

/-- V-C2: row 0 and row 2 of the table of legal frames, in the order of DATA. -/
theorem test_encode_rows_0_and_2 :
    ((List.range 16).map fun d => encodeFrame 0#3 (BitVec.ofNat 4 d))
        = [0x00#8, 0x81#8, 0x82#8, 0x03#8, 0x84#8, 0x05#8, 0x06#8, 0x87#8, 0x88#8, 0x09#8, 0x0A#8, 0x8B#8, 0x0C#8, 0x8D#8,
          0x8E#8, 0x0F#8]
      ∧ ((List.range 16).map fun d => encodeFrame 2#3 (BitVec.ofNat 4 d))
        = [0xA0#8, 0x21#8, 0x22#8, 0xA3#8, 0x24#8, 0xA5#8, 0xA6#8, 0x27#8, 0x28#8, 0xA9#8, 0xAA#8, 0x2B#8, 0xAC#8, 0x2D#8,
          0x2E#8, 0xAF#8] := by decide

/-- The frames of R93's table. -/
theorem test_encode_syntax : encode (.indSet true 1#3) = 0xA9#8 ∧ encode (.levSet 3#4) = 0xA3#8
    ∧ encode (.indGet 0#4) = 0x90#8 ∧ encode (.levReset 0#4) = 0x00#8 := by decide

/-- V-C1. -/
theorem test_parity : parity 0x29#7 = true ∧ parity 0x03#7 = false ∧ parity 0x7E#7 = false := by decide

/-- V-C6. -/
theorem test_unpack : unpackResponse ⟨0x83#8, 0x7D#8⟩ = .error .integrityError
    ∧ unpackResponse ⟨0x7D#8, 0x82#8⟩ = .ok 0x7D#8 := by decide

/-! ## Table words and the fetch -/

/-- A one-byte word is a frame to the indicator; a word with 0x24 in its second byte is one to the lever. -/
theorem test_table_words : decodeTableWord 8 0x30 = some (.indRsvd3 0#4) ∧ decodeTableWord 16 0x2430 = some (.levRsvd3 0#4)
    ∧ decodeTableWord 8 0x20 = none ∧ decodeTableWord 16 0x2230 = none := by decide

/-- The very next step after reset runs the word that was laid down, on either device. -/
theorem test_fetch_runs_first :
    step (State.reset.withFetchWord 8 0x22) = exec (.indSet false 2#3) State.reset
      ∧ step (State.reset.withFetchWord 16 0x2422) = exec (.levSet 2#4) State.reset := ⟨rfl, rfl⟩

/-- That step answers a next state, which the kernel evaluates. -/
theorem test_fetch_answers : (next? (step (State.reset.withFetchWord 8 0x00))).isSome = true := by decide

/-! ## The indicator's commands: section 3 of 95_test_vectors.md -/

/-- V-I10. -/
theorem test_ind_reset : indAfter (.indReset 0#4) ((at0 p3 true true).setInd (ind 1 true true 1 1 true))
    = some (some ⟨0x89#8, 0x76#8⟩, ind 1 true true 1 1 false) := by decide
/-- V-I12. -/
theorem test_ind_reset_again : indAfter (.indReset 15#4) ((at0 p3 true true).setInd (ind 1 true true 1 1 false))
    = some (some ⟨0x89#8, 0x76#8⟩, ind 1 true true 1 1 false) := by decide
/-- V-I2. -/
theorem test_ind_get : indAfter (.indGet 5#4) (at0 p3 true true)
    = some (some ⟨0x80#8, 0x7F#8⟩, ind 0 false true 0 0 false) := by decide
/-- V-I8. -/
theorem test_ind_set_7 : indAfter (.indSet true 7#3) (at0 p3 true true)
    = some (some ⟨0x8F#8, 0x70#8⟩, ind 7 true true 0 0 true) := by decide
/-- V-I4 under `OnTick`: the drive enable stays 0. -/
theorem test_ind_set_on_tick : indAfter (.indSet false 2#3) (at0 pTicks true true)
    = some (some ⟨0x82#8, 0x7D#8⟩, ind 2 false true 0 0 false) := by decide
/-- V-I15 to V-I17: the five reserved codes answer the sentinel and leave `2/0/1/0/2/1` as it is. -/
theorem test_ind_reserved : ∀ i ∈ [Instr.indRsvd3 0, .indRsvd4 0, .indRsvd5 0, .indRsvd6 0, .indRsvd7 15],
    indAfter i ((at0 p3 true true).setInd (ind 2 false true 0 2 true))
      = some (some ⟨0x00#8, 0xFF#8⟩, ind 2 false true 0 2 true) := by decide
/-- V-I13: a parity-invalid IND.SET. -/
theorem test_ind_bad_parity : (next? (serveFrame .ind 0xA2#8 ((at0 p3 true true).setInd (ind 2 false true 0 2 true)))).map
    (fun t => (t.reply, t.ind)) = some (some ⟨0x00#8, 0xFF#8⟩, ind 2 false true 0 2 true) := by decide

/-! ## The indicator's tick: section 4 -/

/-- IND-T1 step 4: the phase toggles at the third tick and the output goes off. -/
theorem test_ind_tick_wraps : indTick p3 (ind 1 true true 2 1 true) = ind 1 true false 0 0 true := by decide
/-- IND-T1 step 5. -/
theorem test_ind_tick_counts : indTick p3 (ind 1 true false 0 0 true) = ind 1 true false 1 0 true := by decide
/-- IND-T2 step 7: steady output although the phase is "off". -/
theorem test_ind_tick_steady : indTick p3 (ind 1 false false 1 0 true) = ind 1 false false 2 1 true := by decide
/-- IND-T4a step 4 and IND-T4b step 4: a tick drives the lines again under `OnTick` only. -/
theorem test_ind_tick_redrive : indTick p3 (ind 2 false true 1 2 false) = ind 2 false true 2 2 false
    ∧ indTick pTicks (ind 2 false true 1 2 false) = ind 2 false true 2 2 true := by decide

/-! ## The lever's commands: section 5 -/

/-- V-L9. -/
theorem test_lev_reset : levAfter (.levReset 0#4) ((at0 p3 false true).setLev ⟨.opened, 0b01, 2, true, 0⟩)
    = some (some ⟨0x03#8, 0xFC#8⟩, ⟨.opened, 0b01, 2, false, 0⟩) := by decide
/-- V-L16. -/
theorem test_lev_reset_ticks : levAfter (.levReset 0#4) ((at0 pTicks true false).setLev ⟨.closed, 0b10, 1, true, 1⟩)
    = some (some ⟨0x02#8, 0xFD#8⟩, ⟨.closed, 0b10, 1, false, 0⟩) := by decide
/-- V-L8. -/
theorem test_lev_get : levAfter (.levGet 0#4) ((at0 p3 false true).setLev ⟨.opened, 0b01, 2, true, 0⟩)
    = some (some ⟨0x03#8, 0xFC#8⟩, ⟨.opened, 0b01, 2, true, 0⟩) := by decide
/-- V-L11. -/
theorem test_lev_set_2 : levAfter (.levSet 2#4) ((at0 p3 false true).setLev ⟨.opened, 0b01, 2, false, 0⟩)
    = some (some ⟨0x02#8, 0xFD#8⟩, ⟨.closed, 0b01, 2, false, 0⟩) := by decide
/-- V-L5, V-L6, V-L7: the boundary values 0, 4 and 15 are rejected. -/
theorem test_lev_set_rejected : ∀ v ∈ [0#4, 4#4, 15#4], levAfter (.levSet v) (at0 p3 true true)
    = some (some ⟨0x00#8, 0xFF#8⟩, ⟨.unknown, 0b00, 3, false, 0⟩) := by decide
/-- V-L14, V-L15. -/
theorem test_lev_reserved : ∀ i ∈ [Instr.levRsvd3 1, .levRsvd4 3, .levRsvd5 1, .levRsvd6 1, .levRsvd7 0],
    levAfter i ((at0 p3 false true).setLev ⟨.opened, 0b01, 2, true, 0⟩)
      = some (some ⟨0x00#8, 0xFF#8⟩, ⟨.opened, 0b01, 2, true, 0⟩) := by decide

/-! ## The lever's tick: section 6 -/

/-- R170 and the header of section 6: `PINS 0, 1` is open asserted, `PINS 1, 0` closed, `PINS 0, 0` both. -/
theorem test_sample : samplePins ⟨false, true⟩ = 0b01#2 ∧ samplePins ⟨true, false⟩ = 0b10#2
    ∧ samplePins ⟨false, false⟩ = 0b11#2 ∧ samplePins ⟨true, true⟩ = 0b00#2 := by decide
/-- LEV-T1 ticks 1 and 2. -/
theorem test_lev_tick_latches : levTick p3 ⟨false, true⟩ ⟨.unknown, 0b00, 3, false, 0⟩ = ⟨.unknown, 0b01, 3, false, 0⟩
    ∧ levTick p3 ⟨false, true⟩ ⟨.unknown, 0b01, 3, false, 0⟩ = ⟨.unknown, 0b01, 2, false, 0⟩ := by decide
/-- LEV-T1 ticks 4 and 7: a commit of a new value, and one of the value held. -/
theorem test_lev_tick_commits : levTick p3 ⟨false, true⟩ ⟨.unknown, 0b01, 1, false, 0⟩ = ⟨.opened, 0b01, 3, true, 0⟩
    ∧ levTick p3 ⟨false, true⟩ ⟨.opened, 0b01, 1, false, 0⟩ = ⟨.opened, 0b01, 3, false, 0⟩ := by decide
/-- LEV-T3 tick 8 and LEV-T4 step 8: neither 0b11 nor 0b00 is committed. -/
theorem test_lev_tick_unclean : levTick p3 ⟨false, false⟩ ⟨.opened, 0b11, 1, true, 0⟩ = ⟨.opened, 0b11, 3, true, 0⟩
    ∧ levTick pTicks ⟨true, true⟩ ⟨.opened, 0b00, 1, false, 0⟩ = ⟨.opened, 0b00, 2, false, 0⟩ := by decide
/-- LEV-T5 ticks 3, 4 and 5. -/
theorem test_lev_tick_hold : levTick pTicks ⟨true, false⟩ ⟨.unknown, 0b10, 1, false, 0⟩ = ⟨.closed, 0b10, 2, true, 2⟩
    ∧ levTick pTicks ⟨true, false⟩ ⟨.closed, 0b10, 2, true, 2⟩ = ⟨.closed, 0b10, 1, true, 1⟩
    ∧ levTick pTicks ⟨true, false⟩ ⟨.closed, 0b10, 1, true, 1⟩ = ⟨.closed, 0b10, 2, false, 0⟩ := by decide

/-! ## The bus and the host -/

/-- A transaction to an address with no device behind it is refused (R63). -/
theorem test_absent_address : next? (transact 0x22 0x00#8 (at0 p3 true true)) = none := by decide
/-- P3, its closing remark: 0x90 is IND.GET at 0x20 and LEV.GET at 0x24. -/
theorem test_same_frame_two_devices : (next? (transact 0x20 0x90#8 (at0 p3 true true))).map (·.reply) = some (some ⟨0x80#8, 0x7F#8⟩)
    ∧ (next? (transact 0x24 0x90#8 (at0 p3 true true))).map (·.reply) = some (some ⟨0x01#8, 0xFE#8⟩) := by decide
/-- H4, H5 and H7, and H6's call with the check on: refused before the bus. -/
theorem test_host_refuses : sendRefuses p3 ⟨0x20, 8, 0⟩ = true ∧ sendRefuses p3 ⟨0x20, 2, 16⟩ = true
    ∧ sendRefuses pTicks ⟨0x24, 2, 5⟩ = true ∧ sendRefuses p3 ⟨0x24, 2, 5⟩ = false
    ∧ sendRefuses pTicks ⟨0x20, 2, 5⟩ = false := by decide
/-- The call of H1 to H3 in progress: `send(IND, 2, 2)`. -/
def calling (left : Nat) : HostCall := ⟨0x20, 0x22#8, left⟩
/-- H1: accepted at the first attempt. -/
theorem test_host_accepts : (next? (attempt (calling 3) clean (at0 p3 true true))).map (·.host)
    = some ⟨none, 1, some (.ok 0x82#8)⟩ := by decide
/-- H2, first attempt: byte1 read as 0x7C, so the host retries; and H3's last attempt ends the call. -/
theorem test_host_retries : (next? (attempt (calling 3) ⟨0, 0, 1⟩ (at0 p3 true true))).map (·.host)
      = some ⟨some (calling 2), 1, none⟩
    ∧ (next? (attempt (calling 1) ⟨0, 0, 1⟩ (at0 p3 true true))).map (·.host)
      = some ⟨none, 1, some .exhausted⟩ := by decide
/-- R31 and R40 at P1's start and end and LEV-T1's end; the lines show the driven code's row, not the stored colour's. -/
theorem test_lines : indLines p3 (ind 0 false true 0 0 false) = .highZ ∧ indLines p3 (ind 2 false true 1 2 true) = .driven [false, true, false]
    ∧ indLines p3 (ind 2 true false 0 0 true) = .driven [false, false, false]
    ∧ attnLine ⟨.opened, 0b01, 3, true, 0⟩ = .driveLow ∧ attnLine ⟨.opened, 0b01, 3, false, 0⟩ = .highZ := by decide

/-! ## Witnesses: states and operands that meet the hypotheses of the statements, together -/

/-- `s` with the one event `e` laid down. -/
def laid (s : State) (e : Event) : State := { s with schedule := [e] }

theorem witness_StepRunsDecodedInstruction :
    (laid (at0 p3 true true) (.transaction 0x24 0x22#8)).schedule = .transaction 0x24 0x22#8 :: []
      ∧ Device.ofAddress 0x24 = some .lev ∧ decodeInstr .lev 0x22#8 = .ok (.levSet 2#4) := by decide
theorem witness_ParityInvalidFrameNotExecuted :
    (laid (at0 p3 true true) (.transaction 0x20 0xA2#8)).schedule = .transaction 0x20 0xA2#8 :: []
      ∧ ((0x20 : BusAddress) = 0x20 ∨ (0x20 : BusAddress) = 0x24)
      ∧ (0xA2#8).getLsbD 7 ≠ parity ((0xA2#8).extractLsb' 0 7) := by decide
theorem witness_ParityInvalidFrameNotExecuted_lever :
    (laid (at0 p3 true true) (.transaction 0x24 0x80#8)).schedule = .transaction 0x24 0x80#8 :: []
      ∧ ((0x24 : BusAddress) = 0x20 ∨ (0x24 : BusAddress) = 0x24)
      ∧ (0x80#8).getLsbD 7 ≠ parity ((0x80#8).extractLsb' 0 7) := by decide
theorem witness_EncodeDecodeBijection : decodeFrame 0x22#8 = .ok (2#3, 2#4)
    ∧ ∀ (c : Command) (d : Data), encodeFrame c d ≠ 0xA2#8 := by decide
theorem witness_OddBitFlipsAreDetected : ones 0x07#8 % 2 = 1 ∧ ones 0xC0#8 % 2 = 0 := by decide
theorem witness_ReplyIntegrity : (0x83#8 : Byte) ≠ 0x82#8 ∧ (0x7C#8 : Byte) ≠ ~~~0x82#8 := by decide
theorem witness_InstructionDecodeEncodeAgree : (Instr.indSet true 7#3).wellFormed = true
    ∧ decodeInstr .lev 0xFF#8 = .ok (.levRsvd7 15#4) := by decide
theorem witness_ZeroStatusIffNotExecuted : NotExecuted .ind 0xA2#8 ∧ NotExecuted .ind 0x30#8 ∧ NotExecuted .lev 0xA0#8
    ∧ NotExecuted .lev 0x24#8 ∧ ¬NotExecuted .lev 0xA3#8 ∧ ¬NotExecuted .ind 0xA0#8 := by
  unfold NotExecuted; decide
theorem witness_FramesAreIdempotent : ∃ t, serveFrame .lev 0x22#8 (at0 p3 true true) = .next t := ⟨_, rfl⟩
theorem witness_RepliesDependOnReportedStateOnly :
    ∃ t₁ t₂, (at0 p3 true true).ind.color = (at0 pTicks false true).ind.color
      ∧ (at0 p3 true true).ind.blink = (at0 pTicks false true).ind.blink
      ∧ serveFrame .ind 0x22#8 (at0 p3 true true) = .next t₁ ∧ serveFrame .ind 0x22#8 (at0 pTicks false true) = .next t₂ :=
  ⟨_, _, rfl, rfl, rfl, rfl⟩
theorem witness_RepliesDependOnReportedStateOnly_lever :
    ∃ t₁ t₂, (at0 p3 true true).lev.status = (at0 pTicks false true).lev.status
      ∧ serveFrame .lev 0x90#8 (at0 p3 true true) = .next t₁ ∧ serveFrame .lev 0x90#8 (at0 pTicks false true) = .next t₂ :=
  ⟨_, _, rfl, rfl, rfl⟩
theorem witness_IndicatorCommandsFrame : (Instr.indRsvd7 0#4).device = .ind := rfl
theorem witness_LeverCommandsFrame : (Instr.levSet 0#4).device = .lev := rfl
theorem witness_IndTickResult : (laid (at0 p3 true true) (.tick .ind)).schedule = .tick .ind :: [] := rfl
/-- The counter one below the threshold, so that the next tick wraps. -/
theorem witness_BlinkTimer : indLegal p3 (ind 1 true true 2 1 true) = true ∧ (ind 1 true true 2 1 true).blink = true
    ∧ 1 ≤ 1 ∧ 2 < p3.blinkThreshold.val.toNat := by decide
theorem witness_SteadyOutputWithoutBlink : (ind 1 false false 2 0 true).blink = false ∧ 1 ≤ 1 := by decide
theorem witness_LevGetResult : ((at0 p3 true true).setLev ⟨.closed, 0b10, 1, true, 0⟩).lev.status = .closed := rfl
theorem witness_LevSetAcceptsOneToThree : (1 ≤ (1#4).toNat ∧ (3#4).toNat ≤ 3) ∧ ¬(1 ≤ (0#4).toNat ∧ (0#4).toNat ≤ 3)
    ∧ ¬(1 ≤ (4#4).toNat ∧ (4#4).toNat ≤ 3) := by decide
theorem witness_LevTickResult : (laid (at0 p3 false true) (.tick .lev)).schedule = .tick .lev :: [] := rfl
theorem witness_ChatterNeverCommits :
    EverySampleDiffers (at0 p3 true true).lev.prev [⟨false, true⟩, ⟨true, false⟩, ⟨false, true⟩] := by
  unfold EverySampleDiffers EverySampleDiffers EverySampleDiffers EverySampleDiffers; decide
theorem witness_StableRunCommitsOnce : sampleOf (at0 p3 false true).pins ≠ (at0 p3 false true).lev.prev
    ∧ (sampleOf (at0 p3 false true).pins = 0b01#2 ∧ LeverStatus.opened = .opened
      ∨ sampleOf (at0 p3 false true).pins = 0b10#2 ∧ LeverStatus.opened = .closed)
    ∧ 3 = (at0 p3 false true).params.debounceThreshold.val.toNat ∧ LeverStatus.opened ≠ (at0 p3 false true).lev.status := by
  decide
/-- LEV-T6 after step 5: the host has written Unknown and the lines still show open. -/
def acknowledged : State := (at0 pTicks false true).setLev ⟨.unknown, 0b01, 2, false, 0⟩
/-- The same for the Closed pattern, with `Td = 2`. -/
theorem witness_StableRunCommitsOnce_closed : sampleOf (at0 pTicks true false).pins ≠ (at0 pTicks true false).lev.prev
    ∧ (sampleOf (at0 pTicks true false).pins = 0b10#2 ∧ LeverStatus.closed = .closed)
    ∧ 2 = (at0 pTicks true false).params.debounceThreshold.val.toNat
    ∧ LeverStatus.closed ≠ (at0 pTicks true false).lev.status := by decide
theorem witness_HeldPatternIsRecommitted : levLegal acknowledged.params acknowledged.lev = true
    ∧ sampleOf acknowledged.pins = acknowledged.lev.prev
    ∧ (acknowledged.lev.prev = 0b01#2 ∧ LeverStatus.opened = .opened
      ∨ acknowledged.lev.prev = 0b10#2 ∧ LeverStatus.opened = .closed)
    ∧ LeverStatus.opened ≠ acknowledged.lev.status ∧ 2 = acknowledged.lev.cnt.toNat := by decide
theorem witness_UncleanPatternNeverCommits : (at0 p3 false false).pins = ⟨false, false⟩ ∧ (at0 p3 true true).pins = ⟨true, true⟩ :=
  ⟨rfl, rfl⟩
/-- LEV-T5 after tick 3, under `Ticks(2)`. -/
def held : State := (at0 pTicks true false).setLev ⟨.closed, 0b10, 2, true, 2⟩
theorem witness_AttentionHoldTime : attnLegal held.params.attnHold held.lev = true ∧ held.lev.attn = true
    ∧ (sampleOf held.pins = 0b10#2 ∧ held.lev.status = .closed) ∧ held.params.attnHold ≠ .untilReset := by decide
/-- LEV-T3 after tick 5, under `UntilReset`. -/
def heldUntil : State := (at0 p3 false false).setLev ⟨.opened, 0b11, 3, true, 0⟩
theorem witness_AttentionHoldTime_untilReset : attnLegal heldUntil.params.attnHold heldUntil.lev = true
    ∧ heldUntil.lev.attn = true ∧ sampleOf heldUntil.pins = 0b11#2 ∧ heldUntil.params.attnHold = .untilReset := by decide
theorem witness_EveryStepKeepsLegalState : ∃ t, (laid held (.tick .lev)).Inv ∧ step (laid held (.tick .lev)) = .next t :=
  ⟨_, by decide, rfl⟩
theorem witness_power_up_legal : (at0 p3 true true).Inv ∧ (at0 pTicks false true).Inv := by decide
theorem witness_EventsAreNeitherLostNorMerged : ∃ t, step (laid held (.tick .lev)) = .next t
    ∧ (laid held (.tick .lev)).schedule = .tick .lev :: [] := ⟨_, rfl, rfl⟩
theorem witness_EventsAreNeitherLostNorMerged_empty : held.schedule = [] := rfl
theorem witness_IndicatorRegisterWriters : ∃ t, step (laid (at0 p3 true true) (.transaction 0x20 0x22#8)) = .next t
    ∧ t.ind.color ≠ (at0 p3 true true).ind.color ∧ t.ind.outEn ≠ (at0 p3 true true).ind.outEn := ⟨_, rfl, by decide, by decide⟩
theorem witness_IndicatorRegisterWriters_tick : ∃ t, step (laid (at0 p3 true true) (.tick .ind)) = .next t
    ∧ t.ind.blinkCnt ≠ (at0 p3 true true).ind.blinkCnt := ⟨_, rfl, by decide⟩
theorem witness_LeverRegisterWriters : ∃ t, step (laid (at0 p3 true true) (.transaction 0x24 0x22#8)) = .next t
    ∧ t.lev.status ≠ (at0 p3 true true).lev.status := ⟨_, rfl, by decide⟩
theorem witness_LeverRegisterWriters_tick : ∃ t, step (laid held (.tick .lev)) = .next t ∧ t.lev.cnt ≠ held.lev.cnt
    ∧ t.lev.attnTimer ≠ held.lev.attnTimer := ⟨_, rfl, by decide, by decide⟩
/-- The tick of LEV-T1 that commits. -/
def aboutToCommit : State := laid ((at0 p3 false true).setLev ⟨.unknown, 0b01, 1, false, 0⟩) (.tick .lev)
theorem witness_AttentionRisesOnCommittedChangeOnly : ∃ t, step aboutToCommit = .next t ∧ aboutToCommit.lev.attn = false
    ∧ t.lev.attn = true ∧ aboutToCommit.takeEvent.1 = .tick .lev ∧ t.lev.status ≠ aboutToCommit.lev.status :=
  ⟨_, rfl, rfl, rfl, rfl, by decide⟩
/-- Two machines that differ in the lever and its lines, and one that differs from them in the indicator. -/
theorem witness_DevicesDoNotInterfere : ∃ t₁ t₂,
    (laid held (.transaction 0x20 0x22#8)).params = (laid (at0 pTicks false true) (.transaction 0x20 0x22#8)).params
      ∧ (laid held (.transaction 0x20 0x22#8)).host = (laid (at0 pTicks false true) (.transaction 0x20 0x22#8)).host
      ∧ (laid held (.transaction 0x20 0x22#8)).schedule = (laid (at0 pTicks false true) (.transaction 0x20 0x22#8)).schedule
      ∧ (laid held (.transaction 0x20 0x22#8)).draws = (laid (at0 pTicks false true) (.transaction 0x20 0x22#8)).draws
      ∧ step (laid held (.transaction 0x20 0x22#8)) = .next t₁
      ∧ step (laid (at0 pTicks false true) (.transaction 0x20 0x22#8)) = .next t₂
      ∧ held.ind = (at0 pTicks false true).ind ∧ held.lev ≠ (at0 pTicks false true).lev :=
  ⟨_, _, rfl, rfl, rfl, rfl, rfl, rfl, rfl, by decide⟩
/-- The same for the lever: the two machines differ in the indicator only. -/
theorem witness_DevicesDoNotInterfere_lever : ∃ t₁ t₂,
    step (laid held (.transaction 0x24 0x22#8)) = .next t₁
      ∧ step (laid (held.setInd (ind 5 true false 1 5 true)) (.transaction 0x24 0x22#8)) = .next t₂
      ∧ held.lev = (held.setInd (ind 5 true false 1 5 true)).lev ∧ held.pins = (held.setInd (ind 5 true false 1 5 true)).pins
      ∧ held.ind ≠ (held.setInd (ind 5 true false 1 5 true)).ind := ⟨_, _, rfl, rfl, rfl, rfl, by decide⟩
theorem witness_OutputLinesFollowState : (ind 2 false true 1 2 true).outEn = true ∧ (ind 0 false true 0 0 false).outEn = false
    ∧ held.lev.attn = true ∧ acknowledged.lev.attn = false := by decide
theorem witness_RangeCheckBeforeTheBus : (at0 p3 true true).host.call = none ∧ (7 < 8 ∨ 15 < 0) ∧ (7 < 0 ∨ 15 < 16) := by decide
/-- The host in the call of H1 to H3, with two attempts left and one issued. -/
def inCall : State := (at0 p3 true true).setHost ⟨some (calling 2), 1, none⟩
theorem witness_FirstAcceptedReplyEndsCall : inCall.host.call = some (calling 2) ∧ 1 ≤ (calling 2).attemptsRemaining
    ∧ ((calling 2).addr = 0x20 ∨ (calling 2).addr = 0x24)
    ∧ ((0x7D#8 : Byte) ^^^ 0#8 = ~~~(0x82#8 ^^^ 0#8) ∧ (0x82#8 : Byte) ^^^ 0#8 ≠ 0#8) := by decide
theorem witness_UnacceptedReplySpendsOneAttempt : inCall.Inv ∧ inCall.host.call = some (calling 2)
    ∧ (calling 2).attemptsRemaining ≠ 1
    ∧ ¬((0x7D#8 : Byte) ^^^ 1#8 = ~~~(0x82#8 ^^^ 0#8) ∧ (0x82#8 : Byte) ^^^ 0#8 ≠ 0#8) := by decide
/-- The same call at its last attempt. -/
theorem witness_UnacceptedReplySpendsOneAttempt_last :
    ((at0 p3 true true).setHost ⟨some (calling 1), 2, none⟩).Inv ∧ (calling 1).attemptsRemaining = 1 := by decide
theorem witness_ExhaustedAfterExactlyMaxAttempts : (at0 p3 true true).host.call = none
    ∧ sendRefuses (at0 p3 true true).params ⟨0x20, 1, 0⟩ = false ∧ ((0x20 : BusAddress) = 0x20 ∨ (0x20 : BusAddress) = 0x24)
    ∧ (∀ n ∈ [Noise.mk 0 0 1, Noise.mk 0 0 0xFF, Noise.mk 0 3 4], n.byte0 ≠ n.byte1)
    ∧ [Noise.mk 0 0 1, Noise.mk 0 0 0xFF, Noise.mk 0 3 4].length = (at0 p3 true true).params.maxAttempts.val := by decide
theorem witness_RejectedLeverSetExhausts : (at0 p3 true true).host.call = none
    ∧ (at0 p3 true true).params.hostPrevalidateLeverSet = false ∧ 5 ≤ 15 ∧ ¬(1 ≤ 5 ∧ 5 ≤ 3) ∧ ¬(1 ≤ 0 ∧ 0 ≤ 3) := by decide
/-- H7: the host checks lever set-status values itself and the data is 5. -/
theorem witness_SendChecksThenBeginsTheCall : (at0 pTicks true true).host.call = none
    ∧ (at0 pTicks true true).params.hostPrevalidateLeverSet = true ∧ ¬(1 ≤ 5 ∧ 5 ≤ 3) := by decide
theorem witness_SetThenGetEndToEnd : (at0 p3 true true).host.call = none := rfl

end Sys2Proof.Tests
end

section
/-! PROOF. What decoding an encoded frame answers: the two fields the frame was built from, and on each device the row of
the command map (R83) that its command code selects. -/

namespace Sys2Proof

/-- The command stands in bits 6..4 of an encoded frame (R80, R101). -/
@[simp] theorem frameCommand_encodeFrame (c : Command) (d : Data) : frameCommand (encodeFrame c d) = c := by
  ext i hi
  have belowParity : 4 + i < 7 := by omega
  simp [frameCommand, encodeFrame, hi, belowParity, show 4 + i < 8 by omega]

/-- The data stands in bits 3..0 of an encoded frame (R80, R101). -/
@[simp] theorem frameData_encodeFrame (c : Command) (d : Data) : frameData (encodeFrame c d) = d := by
  ext i hi
  have belowParity : i < 7 := by omega
  simp [frameData, encodeFrame, hi, belowParity, show i < 8 by omega]

/-- Encoding gives a legal frame: putting the parity in bit 7 leaves the seven bits it was taken from (R88, R101). -/
@[simp] theorem legalFrame_encodeFrame (c : Command) (d : Data) : legalFrame (encodeFrame c d) = true := by
  have lowBits : (encodeFrame c d).extractLsb' 0 7
      = (c.setWidth 8 <<< 4 ||| d.setWidth 8 : Byte).extractLsb' 0 7 := by
    ext i hi
    simp [encodeFrame, hi]
  rw [legalFrame, lowBits]
  simp [encodeFrame]

/-- Decoding undoes encoding (R108). -/
@[simp] theorem decodeFrame_encodeFrame (c : Command) (d : Data) : decodeFrame (encodeFrame c d) = .ok (c, d) := by
  simp [decodeFrame_of_legal]

/-- On each device an encoded frame names the instruction that the command map gives for its two fields (R83). -/
@[simp] theorem decodeInstr_encodeFrame (dev : Device) (c : Command) (d : Data) :
    decodeInstr dev (encodeFrame c d) = .ok (instrOf dev c d) := by
  simp [decodeInstr]

/-- Settles O10: decoding an encoded frame asks the command map for its two fields, and each row of the map is read off
`instrOf`, the operands of IND.SET included. -/
theorem commandMapOfBothDevices : Obligations.CommandMapOfBothDevices := by
  refine ⟨ofAddress_eq_some.2 rfl, ofAddress_eq_some.2 rfl, fun d => ?_⟩
  simp only [decodeInstr_encodeFrame]
  and_intros <;> rfl

end Sys2Proof
end

section
/-! PROOF. The frame codec (40_frame_codec.md). A frame is legal exactly when it has an even number of 1 bits, and a legal
frame is determined by its two fields; from these two facts decoding inverts encoding (R108, R110) and the parity bit
detects an odd number of flipped bits and no even one (R109). A reply is accepted exactly when its second byte is the
complement of the first (R106, R111). -/

namespace Sys2Proof

open Sys2Proof.Claims

/-- The number of 1 bits of a value is that of its low bits plus its top bit. -/
theorem ones_succ {n : Nat} (v : BitVec (n + 1)) :
    ones v = ones (v.extractLsb' 0 n) + (v.getLsbD n).toNat := by
  have lowBits : (List.range n).filter (fun i => (v.extractLsb' 0 n).getLsbD i)
      = (List.range n).filter fun i => v.getLsbD i :=
    List.filter_congr fun i hi => by simp [List.mem_range.1 hi]
  simp only [ones, lowBits, List.range_succ, List.filter_append, List.length_append]
  cases top : v.getLsbD n <;> simp [-BitVec.getLsbD_eq_getElem, top]

/-- Flipping bits adds their number to the number of 1 bits, mod 2. -/
theorem ones_xor_mod_two : ∀ {n : Nat} (v w : BitVec n), ones (v ^^^ w) % 2 = (ones v + ones w) % 2
  | 0, _, _ => rfl
  | n + 1, v, w => by
    have ih := ones_xor_mod_two (v.extractLsb' 0 n) (w.extractLsb' 0 n)
    have topBit : ((v ^^^ w).getLsbD n).toNat % 2 = ((v.getLsbD n).toNat + (w.getLsbD n).toNat) % 2 := by
      rw [BitVec.getLsbD_xor]
      cases v.getLsbD n <;> cases w.getLsbD n <;> rfl
    rw [ones_succ, ones_succ v, ones_succ w, BitVec.extractLsb'_xor]
    omega

/-- The codec's popcount counts the 1 bits (R10). -/
theorem popcount_eq_ones (v : BitVec 7) : popcount v = ones v := by
  simp [popcount, ones_succ, show ones (0#0) = 0 from rfl]

/-- The parity of seven bits says whether their number of 1 bits is odd (R100). -/
theorem parity_eq_ones_odd (v : BitVec 7) : parity v = decide (ones v % 2 = 1) := by
  rw [parity, popcount_eq_ones, Bool.beq_eq_decide_eq]

/-- A frame is legal exactly when it has an even number of 1 bits, the parity bit included (R88). -/
theorem legalFrame_eq_ones_even (b : Byte) : legalFrame b = decide (ones b % 2 = 0) := by
  rw [legalFrame, parity_eq_ones_odd, ones_succ b]
  rcases Nat.mod_two_eq_zero_or_one (ones (b.extractLsb' 0 7)) with h | h <;>
    cases b.getLsbD 7 <;> simp [h, Nat.add_mod]

/-- The low seven bits of a byte are its command field and its data field (R80). -/
theorem lowBits_eq_append (b : Byte) : b.extractLsb' 0 7 = frameCommand b ++ frameData b :=
  (BitVec.extractLsb'_append_extractLsb'_eq_extractLsb' (len₁ := 4) (len₂ := 3) rfl).symm

/-- Bit 7 of a legal frame is the parity of its two fields (R88). -/
theorem parityBit_of_legal {b : Byte} (h : legalFrame b = true) :
    b.getLsbD 7 = parity (frameCommand b ++ frameData b) := by
  rw [← lowBits_eq_append]
  exact beq_iff_eq.1 h

/-- A legal frame is determined by its two fields: they are its low seven bits, and those give bit 7. -/
theorem legalFrame_ext {a b : Byte} (ha : legalFrame a = true) (hb : legalFrame b = true)
    (hcommand : frameCommand a = frameCommand b) (hdata : frameData a = frameData b) : a = b := by
  have lowBits : a.extractLsb' 0 7 = b.extractLsb' 0 7 := by
    rw [lowBits_eq_append, lowBits_eq_append, hcommand, hdata]
  have parityBit : a.getLsbD 7 = b.getLsbD 7 := by
    rw [parityBit_of_legal ha, parityBit_of_legal hb, hcommand, hdata]
  apply BitVec.eq_of_getLsbD_eq
  intro i hi
  rcases Nat.lt_succ_iff_lt_or_eq.1 hi with below | rfl
  · simpa [below] using congrArg (·.getLsbD i) lowBits
  · exact parityBit

/-- Decoding answers a command and a data field exactly for the frame that encodes them (R108, R110). -/
theorem decodeFrame_eq_ok_iff {b : Byte} {c : Command} {d : Data} :
    decodeFrame b = .ok (c, d) ↔ encodeFrame c d = b := by
  constructor
  · intro h
    cases legal : legalFrame b
    · simp [decodeFrame_of_not_legal legal] at h
    · rw [decodeFrame_of_legal legal] at h
      cases h
      exact legalFrame_ext (by simp) legal (by simp) (by simp)
  · rintro rfl
    simp

/-- A pair whose second byte is the complement of the first unpacks to the first (R106). -/
@[simp] theorem unpackResponse_complement (st : Byte) : unpackResponse ⟨st, ~~~st⟩ = .ok st := by
  simp [unpackResponse]

/-- A pair whose second byte is not the complement of the first is an integrity error (R106). -/
theorem unpackResponse_of_ne {st ck : Byte} (h : ck ≠ ~~~st) :
    unpackResponse ⟨st, ck⟩ = .error .integrityError := by
  simp [unpackResponse, h]

/-- Settles O1: the codec's popcount counts the 1 bits. -/
theorem parityIsPopcountModTwo : Obligations.ParityIsPopcountModTwo :=
  ⟨parity_eq_ones_odd, by decide⟩

/-- Settles O2: an encoded frame is legal, so its bit 7 is the parity of its two fields. -/
theorem encodeFrameLayout : Obligations.EncodeFrameLayout := by
  refine ⟨fun c d => ⟨frameCommand_encodeFrame c d, frameData_encodeFrame c d, ?_⟩, by decide⟩
  simpa using parityBit_of_legal (legalFrame_encodeFrame c d)

/-- Settles O3: the two cases are the legal and the illegal frames. -/
theorem decodeFrameChecksParity : Obligations.DecodeFrameChecksParity := by
  refine ⟨fun b => ?_, by decide⟩
  split
  case isTrue illegal => exact decodeFrame_of_not_legal (beq_eq_false_iff_ne.2 illegal)
  case isFalse legal => exact decodeFrame_of_legal (beq_iff_eq.2 (not_not.1 legal))

/-- Settles O4: the two cases are the complementary pairs and the others. -/
theorem packAndUnpackReply : Obligations.PackAndUnpackReply := by
  refine ⟨fun _ => rfl, fun st ck => ?_, by decide⟩
  split
  case isTrue mismatch => exact unpackResponse_of_ne mismatch
  case isFalse complement => rw [not_not.1 complement, unpackResponse_complement]

/-- Settles O5: a byte that decodes is the encoding of its fields, so a byte that encodes nothing is not legal. -/
theorem encodeDecodeBijection : Obligations.EncodeDecodeBijection := by
  refine ⟨decodeFrame_encodeFrame, fun b c d => decodeFrame_eq_ok_iff.1, fun b outside => ?_⟩
  cases legal : legalFrame b
  · exact decodeFrame_of_not_legal legal
  · exact absurd (decodeFrame_eq_ok_iff.1 (decodeFrame_of_legal legal)) (outside _ _)

/-- Settles O6: an encoded frame has an even number of 1 bits, so after the flips that number is as odd or even as the
number of flips. -/
theorem oddBitFlipsAreDetected : Obligations.OddBitFlipsAreDetected := by
  intro c d flips
  have evenFrame : ones (encodeFrame c d) % 2 = 0 := by
    simpa [legalFrame_eq_ones_even] using legalFrame_encodeFrame c d
  have flipped : ones (encodeFrame c d ^^^ flips) % 2 = ones flips % 2 := by
    rw [ones_xor_mod_two]
    omega
  constructor
  · intro odd
    exact decodeFrame_of_not_legal (by simp [legalFrame_eq_ones_even, flipped, odd])
  · intro even
    exact ⟨_, _, decodeFrame_of_legal (by simp [legalFrame_eq_ones_even, flipped, even])⟩

/-- Settles O7: changing one byte of a complementary pair leaves no complementary pair, since the complement is injective,
and flipping the same bits of both bytes leaves one. -/
theorem replyIntegrity : Obligations.ReplyIntegrity := by
  refine ⟨unpackResponse_complement, fun st b changed => ?_, fun st b changed => unpackResponse_of_ne changed,
    fun st other => ?_⟩
  · exact unpackResponse_of_ne fun complement => changed (BitVec.not_inj.1 complement).symm
  · have status : st ^^^ (st ^^^ other) = other := by rw [← BitVec.xor_assoc, BitVec.xor_self, BitVec.zero_xor]
    have check : ~~~st ^^^ (st ^^^ other) = ~~~other := by rw [← BitVec.not_xor_left, status]
    rw [status, check, unpackResponse_complement]

end Sys2Proof
end

section
/-! PROOF. The commands of the lever (42_lever.md). The operand of LEV.SET names a status exactly when it is that status's
code, so it names one exactly when it is 1, 2 or 3 (R165); LEV.SET writes the status its operand names (R166) and is not
executed where it names none. -/

namespace Sys2Proof.Machine

/-- The code of a status is one of 1, 2 and 3 (R33); it is never the failure sentinel 0 (R34). -/
theorem LeverStatus.code_bounds (st : LeverStatus) : 1 ≤ st.code.toNat ∧ st.code.toNat ≤ 3 := by
  cases st <;> decide

/-- A value names a status exactly when it is that status's code (R165, R166). -/
theorem statusOfValue_eq_some_iff {value : Data} {st : LeverStatus} :
    statusOfValue value = some st ↔ st.code.toNat = value.toNat := by
  revert value
  cases st <;> decide

/-- A value names no status exactly when it is outside 1, 2 and 3 (R165). -/
theorem statusOfValue_eq_none_iff {value : Data} :
    statusOfValue value = none ↔ ¬(1 ≤ value.toNat ∧ value.toNat ≤ 3) := by
  revert value
  decide

/-- LEV.SET with a value that names a status writes that status alone and replies with it (R166, R168). -/
theorem exec_levSet_of_some {value : Data} {st : LeverStatus} (h : statusOfValue value = some st) (s : State) :
    exec (.levSet value) s = .next ((s.setLev { s.lev with status := st }).withReply
      (packResponse (levStatusByte { s.lev with status := st }))) := by
  simp only [exec, execLevSet, h, executed]

/-- LEV.SET with a value that names no status is not executed (R165). -/
theorem exec_levSet_of_none {value : Data} (h : statusOfValue value = none) (s : State) :
    exec (.levSet value) s = notExecuted s := by
  simp only [exec, execLevSet, h]

/-- Settles O29: the two cases are the values that name a status and those that name none. -/
theorem levSetAcceptsOneToThree : Obligations.LevSetAcceptsOneToThree := by
  intro value s
  cases named : statusOfValue value with
  | some st =>
    have code : st.code.toNat = value.toNat := statusOfValue_eq_some_iff.1 named
    have accepted : 1 ≤ value.toNat ∧ value.toNat ≤ 3 := code ▸ st.code_bounds
    exact ⟨_, _, exec_levSet_of_some named s, rfl, fun _ => code, fun rejected => absurd accepted rejected⟩
  | none =>
    have rejected : ¬(1 ≤ value.toNat ∧ value.toNat ≤ 3) := statusOfValue_eq_none_iff.1 named
    exact ⟨_, _, (exec_levSet_of_none named s).trans (notExecuted_eq s), rfl,
      fun accepted => absurd accepted rejected, fun _ => ⟨rfl, rfl⟩⟩

end Sys2Proof.Machine
end

section
/-! PROOF. A turn of the host (45_host_transport.md). In no call it takes the first lines of `send`, which refuse a command
or data that does not fit its field (R201); in a call to one of the two devices it makes one attempt, whose reply ends the
call exactly when it is accepted (R203). -/

namespace Sys2Proof.Machine

/-- `send` refuses a command that does not fit 3 bits or data that does not fit 4 bits (R201). -/
theorem sendRefuses_of_outOfRange {p : Params} {r : Request} (h : 7 < r.command ∨ 15 < r.data) :
    sendRefuses p r = true := by
  have illFormed : r.wellFormed = false := by
    simp only [Request.wellFormed, Request.commandFits, Request.dataFits, Bool.and_eq_false_iff,
      decide_eq_false_iff_not, not_le]
    exact h
  simp [sendRefuses, illFormed]

/-- A run that begins with a turn of a host in no call: the first lines of `send`, and nothing else (R202, R212). -/
theorem runEvents_host_of_idle {s : State} (h : s.host.call = none) (r : Request) (n : Noise) (es : List Event) :
    runEvents (.host r n :: es) s = runEvents es (s.setHost (beginCall s.params r)).clearReply :=
  runEvents_cons (by simp only [perform, hostTurn, h]; rfl)

/-- A transaction to one of the two devices is answered, with the schedule as it was (R62). -/
theorem transact_answers {a : BusAddress} (ha : a = 0x20 ∨ a = 0x24) (b : Byte) (s : State) :
    ∃ t r, transact a b s = .next t ∧ t.reply = some r ∧ t.schedule = s.schedule := by
  obtain ⟨-, h⟩ | ⟨-, h⟩ | ⟨notInd, notLev, -⟩ := transact_cases a b s
  · obtain ⟨d, st, h'⟩ := serveFrame_ind b s
    exact ⟨_, _, h.trans h', rfl, rfl⟩
  · obtain ⟨d, st, h'⟩ := serveFrame_lev b s
    exact ⟨_, _, h.trans h', rfl, rfl⟩
  · exact absurd ha (not_or.2 ⟨notInd, notLev⟩)

/-- A run that begins with a turn of a host in a call to one of the two devices, with an attempt left: the device answers,
and the host's state is what the pair read makes of it (R202, R209). -/
theorem runEvents_host_of_calling {s : State} {c : HostCall} {left : Nat} (hcall : s.host.call = some c)
    (hleft : c.attemptsRemaining = left + 1) (ha : c.addr = 0x20 ∨ c.addr = 0x24) (r : Request) (n : Noise)
    (es : List Event) :
    ∃ (t : State) (reply : Reply), t.reply = some reply ∧ runEvents (.host r n :: es) s
      = runEvents es (t.setHost (afterAttempt c left s.host.issued (some (corruptReply n reply)))) := by
  obtain ⟨t, reply, served, hreply, hschedule⟩ :=
    transact_answers ha (c.frame ^^^ n.frame) { s with schedule := es ++ s.schedule, reply := none }
  refine ⟨{ t with schedule := s.schedule }, reply, hreply, runEvents_cons ?_⟩
  simp [perform, hostTurn, hcall, attempt, hleft, served, hreply, State.setHost, hschedule]

/-- An accepted reply ends the call with its status (R203). -/
theorem afterAttempt_of_accepted {read : Reply} {st : Byte} (h : acceptReply read = some st) (c : HostCall)
    (left issued : Nat) : afterAttempt c left issued (some read) = ⟨none, issued + 1, some (.ok st)⟩ := by
  simp [afterAttempt, h]

/-- An attempt ends with `Ok` of a status exactly when the pair read is accepted with that status (R203). -/
theorem afterAttempt_result_eq_ok_iff {c : HostCall} {left issued : Nat} {read : Reply} {st : Byte} :
    (afterAttempt c left issued (some read)).result = some (.ok st) ↔ acceptReply read = some st := by
  cases accepted : acceptReply read with
  | some _ => simp [afterAttempt_of_accepted accepted]
  | none =>
    simp only [afterAttempt, Option.bind_some, accepted]
    split <;> simp

/-- Settles O52: such a call is refused, so the first lines of `send` leave the host in no call. -/
theorem rangeCheckBeforeTheBus : Obligations.RangeCheckBeforeTheBus := by
  intro s req noise idle outOfRange
  obtain ⟨-, failed⟩ | ⟨allowed, -⟩ := beginCall_cases s.params req
  · rw [runEvents_host_of_idle idle, failed]
    rfl
  · simp [sendRefuses_of_outOfRange outOfRange] at allowed

/-- Settles O53: the turn is one attempt, the pair read is the device's reply with the bits the bus flips, and what is left
is when that pair is accepted. -/
theorem firstAcceptedReplyEndsCall : Obligations.FirstAcceptedReplyEndsCall := by
  intro s req noise c hcall hleft ha
  obtain ⟨left, hleft⟩ := Nat.exists_eq_add_of_le' hleft
  obtain ⟨t, reply, hreply, run⟩ := runEvents_host_of_calling hcall hleft ha req noise []
  refine ⟨_, reply, run, hreply, fun st => ?_, fun ⟨complement, nonzero⟩ => ?_⟩
  · exact afterAttempt_result_eq_ok_iff.trans acceptReply_eq_some
  · have accepted : acceptReply (corruptReply noise reply) = some (reply.byte0 ^^^ noise.byte0) :=
      acceptReply_eq_some.2 ⟨complement, nonzero, rfl⟩
    rw [setHost_host, afterAttempt_of_accepted accepted]

end Sys2Proof.Machine
end

section
/-! PROOF. Instructions and their frames (30_encoding.md section 6). On each device the command map is inverted by the
command code and the data field of the instruction it gives, so encoding and decoding an instruction are inverse because
those of the codec are (R83, R94, R110). -/

namespace Sys2Proof

/-- The operands of IND.SET are the two parts of the data field that carries them (R84). -/
theorem dataOfSet_fields : ∀ (blink : Bool) (color : Color),
    dataBlink (dataOfSet blink color) = blink ∧ dataColor (dataOfSet blink color) = color := by decide

/-- A data field carries its own two parts (R84). -/
theorem dataOfSet_of_fields : ∀ d : Data, dataOfSet (dataBlink d) (dataColor d) = d := by decide

/-- On its own device an instruction is the row of the command map that its code and data field select (R83). -/
theorem instrOf_fields (i : Instr) : instrOf i.device i.command i.dataField = i := by
  cases i with
  | indSet blink color =>
    obtain ⟨hblink, hcolor⟩ := dataOfSet_fields blink color
    exact congrArg₂ Instr.indSet hblink hcolor
  | _ => rfl

/-- The command map reads a command code as the number of its row (R83). -/
theorem instrOf_command (dev : Device) (d : Data) : ∀ c : Command, (instrOf dev c d).command = c := by
  have rows : ∀ n : Fin 8, (instrOf dev (BitVec.ofFin n) d).command = BitVec.ofFin n := by
    intro n
    cases dev <;> fin_cases n <;> rfl
  exact fun c => rows c.toFin

/-- The command map keeps the data field (R84 to R86). -/
theorem instrOf_dataField (dev : Device) (c : Command) (d : Data) : (instrOf dev c d).dataField = d := by
  unfold instrOf
  split
  case h_3 => exact dataOfSet_of_fields d
  all_goals rfl

/-- An instruction decodes from its own frame, on its own device (R94, R110). -/
@[simp] theorem decodeInstr_encode (i : Instr) : decodeInstr i.device (encode i) = .ok i := by
  rw [encode, decodeInstr_encodeFrame, instrOf_fields]

/-- The frame of a decoded instruction is the byte it was decoded from (R110). -/
theorem encode_of_decodeInstr {dev : Device} {b : Byte} {i : Instr} (h : decodeInstr dev b = .ok i) : encode i = b := by
  obtain ⟨-, h'⟩ | ⟨legal, h'⟩ := decodeInstr_cases dev b
  · simp [h'] at h
  · obtain rfl : instrOf dev (frameCommand b) (frameData b) = i := by simpa [h'] using h
    rw [encode, instrOf_command, instrOf_dataField]
    exact decodeFrame_eq_ok_iff.1 (decodeFrame_of_legal legal)

/-- Settles O8: decoding inverts encoding and encoding inverts decoding. -/
theorem instructionDecodeEncodeAgree : Obligations.InstructionDecodeEncodeAgree :=
  ⟨fun i _ => decodeInstr_encode i, fun _ _ _ h => ⟨device_of_decodeInstr h, encode_of_decodeInstr h⟩⟩

/-- Settles O9: the ten frames, evaluated. -/
theorem writtenFramesDecode : Obligations.WrittenFramesDecode := by
  unfold Obligations.WrittenFramesDecode
  decide

end Sys2Proof
end

section
/-! PROOF. What a command does, said once for all sixteen: the registers it writes, as functions of the registers before it,
and the status it replies. Each statement about a command, and each about all commands, is read off these functions. -/

namespace Sys2Proof

open Sys2Proof.Machine Sys2Proof.Claims

/-- The indicator's registers after a command (R131 to R134). -/
def Instr.indAfter (p : Params) : Instr → IndicatorState → IndicatorState
  | .indReset _, d => { d with outEn := false }
  | .indSet blink color, d => Machine.indSet p blink color d
  | _, d => d

/-- The lever's registers after a command (R163 to R168). -/
def Instr.levAfter : Instr → LeverState → LeverState
  | .levReset _, d => attnRelease d
  | .levSet value, d => { d with status := (statusOfValue value).getD d.status }
  | _, d => d

/-- The device executes the command (R222): its code is not reserved, and LEV.SET has a value that names a status. -/
def Instr.isExecuted : Instr → Bool
  | .indReset _ | .indGet _ | .indSet _ _ | .levReset _ | .levGet _ => true
  | .levSet value => (statusOfValue value).isSome
  | _ => false

/-- The status byte a device reports of its registers (R130, R160). -/
def reportedStatus (dev : Device) (d : IndicatorState) (l : LeverState) : Byte :=
  match dev with
  | .ind => indStatusByte d
  | .lev => levStatusByte l

/-- The status a command replies (R222): its device's, from the registers after it, or the sentinel. -/
def Instr.status (i : Instr) (d : IndicatorState) (l : LeverState) : Byte :=
  if i.isExecuted then reportedStatus i.device d l else 0x00#8

/-- The state after a command. -/
def Instr.after (i : Instr) (s : State) : State :=
  { s with
    ind := i.indAfter s.params s.ind
    lev := i.levAfter s.lev
    reply := some (packResponse (i.status (i.indAfter s.params s.ind) (i.levAfter s.lev))) }

/-- Every command completes, in the state `Instr.after` gives (R222, R223). -/
theorem exec_eq (i : Instr) (s : State) : exec i s = .next (i.after s) := by
  cases i with
  | levSet value =>
    cases named : statusOfValue value with
    | some st =>
      rw [exec_levSet_of_some named]
      simp only [Instr.after, Instr.levAfter, Instr.status, Instr.isExecuted, named]
      rfl
    | none =>
      rw [exec_levSet_of_none named]
      simp only [Instr.after, Instr.levAfter, Instr.status, Instr.isExecuted, named]
      rfl
  | _ => rfl

/-! The registers a command leaves as they were. -/

/-- No command writes the blink timer or the driven output (R131 to R134). -/
theorem Instr.indAfter_keeps (p : Params) (i : Instr) (d : IndicatorState) :
    (i.indAfter p d).phaseOn = d.phaseOn ∧ (i.indAfter p d).blinkCnt = d.blinkCnt
      ∧ (i.indAfter p d).ledOut = d.ledOut := by
  cases i <;> exact ⟨rfl, rfl, rfl⟩

/-- No command writes the latch or the debounce counter (R163 to R168). -/
theorem Instr.levAfter_keeps (i : Instr) (d : LeverState) :
    (i.levAfter d).prev = d.prev ∧ (i.levAfter d).cnt = d.cnt := by
  cases i <;> exact ⟨rfl, rfl⟩

/-- The attention line and its timer are written by LEV.RESET alone, which clears them (R163, R168). -/
theorem Instr.levAfter_attn (i : Instr) (d : LeverState) :
    ((i.levAfter d).attn = d.attn ∧ (i.levAfter d).attnTimer = d.attnTimer)
      ∨ ∃ data, i = .levReset data ∧ (i.levAfter d).attn = false ∧ (i.levAfter d).attnTimer = 0#8 := by
  cases i with
  | levReset data => exact .inr ⟨data, rfl, rfl, rfl⟩
  | _ => exact .inl ⟨rfl, rfl⟩

/-- The status is written by LEV.SET alone (R166). -/
theorem Instr.levAfter_status (i : Instr) (d : LeverState) :
    (i.levAfter d).status = d.status ∨ ∃ value, i = .levSet value := by
  cases i with
  | levSet value => exact .inr ⟨value, rfl⟩
  | _ => exact .inl rfl

/-- Colour and blink are written by IND.SET alone (R133). -/
theorem Instr.indAfter_color_blink (p : Params) (i : Instr) (d : IndicatorState) :
    ((i.indAfter p d).color = d.color ∧ (i.indAfter p d).blink = d.blink) ∨ ∃ blink color, i = .indSet blink color := by
  cases i with
  | indSet blink color => exact .inr ⟨blink, color, rfl⟩
  | _ => exact .inl ⟨rfl, rfl⟩

/-- The drive enable is written by IND.RESET, and by IND.SET under `OnSetState` (R131, R133). -/
theorem Instr.indAfter_outEn (p : Params) (i : Instr) (d : IndicatorState) :
    (i.indAfter p d).outEn = d.outEn ∨ (∃ data, i = .indReset data)
      ∨ (p.indRedrive = .onSetState ∧ ∃ blink color, i = .indSet blink color) := by
  cases i with
  | indReset data => exact .inr (.inl ⟨data, rfl⟩)
  | indSet blink color =>
    cases redrive : p.indRedrive with
    | onSetState => exact .inr (.inr ⟨rfl, blink, color, rfl⟩)
    | onTick => exact .inl (by simp [indAfter, Machine.indSet, outEnAfterSet, redrive])
  | _ => exact .inl rfl

/-- A command of the lever leaves the indicator (R42). -/
theorem Instr.indAfter_of_lev {i : Instr} (h : i.device = .lev) (p : Params) (d : IndicatorState) :
    i.indAfter p d = d := by
  cases i with
  | indReset | indSet => cases h
  | _ => rfl

/-- A command of the indicator leaves the lever (R42). -/
theorem Instr.levAfter_of_ind {i : Instr} (h : i.device = .ind) (d : LeverState) : i.levAfter d = d := by
  cases i with
  | levReset | levSet => cases h
  | _ => rfl

end Sys2Proof
end

section
/-! PROOF. What a command and a whole frame step reply and leave (R222, R225): a frame that is not executed leaves everything
but the reply, and an executed command answers its device's status byte, which is never the sentinel. -/

namespace Sys2Proof

open Sys2Proof.Machine Sys2Proof.Claims

/-- A command that is not executed writes no register (R222). -/
theorem Instr.registers_of_not_executed {i : Instr} (h : i.isExecuted = false) (p : Params) (d : IndicatorState)
    (l : LeverState) : i.indAfter p d = d ∧ i.levAfter l = l := by
  cases i with
  | indReset | indGet | indSet | levReset | levGet => cases h
  | levSet value =>
    have named : statusOfValue value = none := by simpa [isExecuted] using h
    simp [indAfter, levAfter, named]
  | _ => exact ⟨rfl, rfl⟩

/-- The sentinel's pair is the reply to a frame that is not executed (R222). -/
theorem packResponse_zero : packResponse 0x00#8 = notExecutedReply := by decide

/-- A command that is not executed leaves everything but the reply (R222). -/
theorem Instr.after_of_not_executed {i : Instr} (h : i.isExecuted = false) (s : State) :
    i.after s = s.withReply notExecutedReply := by
  obtain ⟨hind, hlev⟩ := registers_of_not_executed h s.params s.ind s.lev
  simp [after, hind, hlev, status, h, packResponse_zero, State.withReply]

/-- A command that is run again writes the values its device already holds (R73). -/
theorem Instr.registers_again (i : Instr) (p : Params) (d : IndicatorState) (l : LeverState) :
    i.indAfter p (i.indAfter p d) = i.indAfter p d ∧ i.levAfter (i.levAfter l) = i.levAfter l := by
  cases i with
  | indSet =>
    cases redrive : p.indRedrive <;> simp [indAfter, levAfter, Machine.indSet, outEnAfterSet, redrive]
  | levSet value => cases named : statusOfValue value <;> simp [indAfter, levAfter, named]
  | _ => exact ⟨rfl, rfl⟩

/-- Serving a command again changes nothing (R73). -/
theorem Instr.after_after (i : Instr) (s : State) : i.after (i.after s) = i.after s := by
  obtain ⟨hind, hlev⟩ := i.registers_again s.params s.ind s.lev
  simp [after, hind, hlev]

/-- The indicator's status byte as R130 lays it out. -/
theorem indStatusByte_eq (d : IndicatorState) : indStatusByte d = indStatus d.blink d.color := by
  have layout : ∀ (blink : Bool) (color : Color), 0x80#8 ||| ((BitVec.ofBool blink).setWidth 8 <<< 3) ||| color.setWidth 8
      = indStatus blink color := by decide
  exact layout d.blink d.color

/-- The indicator's status byte lies in 0x80..0x8F (R225). -/
theorem indStatus_bounds : ∀ (blink : Bool) (color : Color),
    0x80 ≤ (indStatus blink color).toNat ∧ (indStatus blink color).toNat ≤ 0x8F := by decide

/-- The lever's status byte as R160 gives it. -/
theorem levStatusByte_eq (d : LeverState) : levStatusByte d = levStatus d.status := by
  obtain ⟨status, _⟩ := d
  cases status <;> rfl

/-- The lever's status byte lies in 0x01..0x03 (R225). -/
theorem levStatus_bounds (st : LeverStatus) : 1 ≤ (levStatus st).toNat ∧ (levStatus st).toNat ≤ 3 := by
  cases st <;> decide

/-- No device reports the sentinel 0x00 (R130, R34). -/
theorem reportedStatus_ne_zero (dev : Device) (d : IndicatorState) (l : LeverState) : reportedStatus dev d l ≠ 0#8 := by
  cases dev with
  | ind =>
    have bounds := indStatus_bounds d.blink d.color
    intro h
    simp [← indStatusByte_eq, show indStatusByte d = 0#8 from h] at bounds
  | lev =>
    have bounds := levStatus_bounds l.status
    intro h
    simp [← levStatusByte_eq, show levStatusByte l = 0#8 from h] at bounds

/-- A command replies the sentinel exactly when it is not executed (R222). -/
theorem Instr.status_eq_zero_iff (i : Instr) (d : IndicatorState) (l : LeverState) :
    i.status d l = 0#8 ↔ i.isExecuted = false := by
  cases h : i.isExecuted <;> simp [status, h, reportedStatus_ne_zero]

/-- The reply pair that carries the indicator's status byte. -/
theorem packResponse_indStatusByte (d : IndicatorState) :
    packResponse (indStatusByte d) = pairOf (indStatus d.blink d.color) := by
  rw [indStatusByte_eq]
  rfl

/-- The reply pair that carries the lever's status byte. -/
theorem packResponse_levStatusByte (d : LeverState) : packResponse (levStatusByte d) = pairOf (levStatus d.status) := by
  rw [levStatusByte_eq]
  rfl

/-! A whole frame step. -/

/-- The state after a device has served a frame (R137, R161). -/
def afterFrame (dev : Device) (b : Byte) (s : State) : State :=
  match decodeInstr dev b with
  | .ok i => i.after s
  | .error _ => s.withReply notExecutedReply

/-- The frame step of a device completes, in the state `afterFrame` gives (R223). -/
theorem serveFrame_eq (dev : Device) (b : Byte) (s : State) : serveFrame dev b s = .next (afterFrame dev b s) := by
  unfold afterFrame serveFrame
  cases decodeInstr dev b with
  | ok i => exact exec_eq i s
  | error e => exact notExecuted_eq s

/-- Serving the frame of an instruction on its device runs the instruction. -/
theorem afterFrame_of_decodeInstr {dev : Device} {b : Byte} {i : Instr} (h : decodeInstr dev b = .ok i) (s : State) :
    afterFrame dev b s = i.after s := by
  simp only [afterFrame, h]

/-- Serving an illegal frame leaves everything but the reply (R88, R104). -/
theorem afterFrame_of_not_legal {b : Byte} (h : legalFrame b = false) (dev : Device) (s : State) :
    afterFrame dev b s = s.withReply notExecutedReply := by
  simp only [afterFrame, decodeInstr, decodeFrame_of_not_legal h]

/-- Which rows of the command map are not executed (R222). -/
theorem instrOf_isExecuted (dev : Device) (c : Command) (d : Data) : (instrOf dev c d).isExecuted = false ↔
    3 ≤ c.toNat ∨ (dev = .lev ∧ c = 2#3 ∧ ¬(1 ≤ d.toNat ∧ d.toNat ≤ 3)) := by
  revert c d
  cases dev <;> decide

/-- The frames a device does not execute are the illegal ones and those of a command that is not executed (R222). -/
theorem notExecuted_iff (dev : Device) (b : Byte) :
    NotExecuted dev b ↔ ∀ i, decodeInstr dev b = .ok i → i.isExecuted = false := by
  have parityBit : b.getLsbD 7 ≠ parity (b.extractLsb' 0 7) ↔ legalFrame b = false := (beq_eq_false_iff_ne ..).symm
  unfold NotExecuted
  rw [parityBit]
  obtain ⟨illegal, h⟩ | ⟨legal, h⟩ := decodeInstr_cases dev b
  · simp [illegal, h]
  · have fields := instrOf_isExecuted dev (frameCommand b) (frameData b)
    simp only [h, legal, Except.ok.injEq, forall_eq', fields, Bool.true_eq_false, false_or]
    rfl

end Sys2Proof
end

section
/-! PROOF. The statements about frames and commands, read off the closed forms above. -/

namespace Sys2Proof

open Sys2Proof.Machine Sys2Proof.Claims

/-- Settles O13: a frame that is not executed is either illegal or that of a command that is not executed, and an executed
command replies the status byte of its device. -/
theorem zeroStatusIffNotExecuted : Obligations.ZeroStatusIffNotExecuted := by
  intro dev b s
  obtain ⟨decoded, -⟩ | ⟨i, decoded, rfl, served⟩ := serveFrame_cases dev b s
  · have ignored : NotExecuted dev b := (notExecuted_iff dev b).2 (by simp [decoded])
    refine ⟨_, notExecutedReply, serveFrame_eq dev b s, ?_, by decide, by simp [ignored, notExecutedReply], ?_, ?_⟩
    · simp [afterFrame, decoded]
    · intro _
      simp [afterFrame, decoded, State.withReply]
    · exact fun executed => absurd ignored executed
  · have ignored : NotExecuted i.device b ↔ i.isExecuted = false := by simp [notExecuted_iff, decoded]
    refine ⟨i.after s, _, served.trans (exec_eq i s), rfl, rfl, ?_, ?_, ?_⟩
    · exact (i.status_eq_zero_iff _ _).trans ignored.symm
    · exact fun h => i.after_of_not_executed (ignored.1 h) s
    · intro executed
      have hexec : i.isExecuted = true := by simpa [ignored] using executed
      cases hdev : i.device with
      | ind =>
        simpa [packResponse, Instr.status, hexec, hdev, reportedStatus, indStatusByte_eq] using indStatus_bounds ..
      | lev =>
        simpa [packResponse, Instr.status, hexec, hdev, reportedStatus, levStatusByte_eq] using levStatus_bounds ..

/-- Settles O14: a command leaves its own result as it is, and so does a frame that names none. -/
theorem framesAreIdempotent : Obligations.FramesAreIdempotent := by
  intro dev b s t served
  obtain rfl : afterFrame dev b s = t := by simpa [serveFrame_eq] using served
  rw [serveFrame_eq]
  congr 1
  cases decoded : decodeInstr dev b with
  | ok i => simp only [afterFrame, decoded, i.after_after]
  | error e => simp only [afterFrame, decoded]; rfl

/-- The colour and blink flag after a command depend on those before it alone. -/
theorem Instr.indStatusByte_indAfter_congr (i : Instr) (p₁ p₂ : Params) {d₁ d₂ : IndicatorState}
    (color : d₁.color = d₂.color) (blink : d₁.blink = d₂.blink) :
    indStatusByte (i.indAfter p₁ d₁) = indStatusByte (i.indAfter p₂ d₂) := by
  rw [indStatusByte_eq, indStatusByte_eq]
  cases i with
  | indSet => rfl
  | _ => exact congrArg₂ indStatus blink color

/-- The lever's status after a command depends on that before it alone. -/
theorem Instr.levStatusByte_levAfter_congr (i : Instr) {l₁ l₂ : LeverState} (status : l₁.status = l₂.status) :
    levStatusByte (i.levAfter l₁) = levStatusByte (i.levAfter l₂) := by
  rw [levStatusByte_eq, levStatusByte_eq]
  cases i with
  | levSet value => simp only [levAfter, status]
  | _ => exact congrArg levStatus status

/-- Two frame steps of the same byte reply the same where the command's status is the same. -/
theorem afterFrame_reply_congr {dev : Device} {b : Byte} {s₁ s₂ : State}
    (status : ∀ i : Instr, i.device = dev →
      i.status (i.indAfter s₁.params s₁.ind) (i.levAfter s₁.lev)
        = i.status (i.indAfter s₂.params s₂.ind) (i.levAfter s₂.lev)) :
    (afterFrame dev b s₁).reply = (afterFrame dev b s₂).reply := by
  cases decoded : decodeInstr dev b with
  | ok i => simp only [afterFrame, decoded, Instr.after, status i (device_of_decodeInstr decoded)]
  | error e => simp only [afterFrame, decoded, withReply_reply]

/-- The reply of the indicator depends on the stored colour and blink flag alone (R145). -/
theorem afterFrame_ind_reply_congr (b : Byte) {s₁ s₂ : State} (color : s₁.ind.color = s₂.ind.color)
    (blink : s₁.ind.blink = s₂.ind.blink) : (afterFrame .ind b s₁).reply = (afterFrame .ind b s₂).reply :=
  afterFrame_reply_congr fun i hi => by
    simp only [Instr.status, hi, reportedStatus, i.indStatusByte_indAfter_congr s₁.params s₂.params color blink]

/-- The reply of the lever depends on the committed status alone (R164). -/
theorem afterFrame_lev_reply_congr (b : Byte) {s₁ s₂ : State} (status : s₁.lev.status = s₂.lev.status) :
    (afterFrame .lev b s₁).reply = (afterFrame .lev b s₂).reply :=
  afterFrame_reply_congr fun i hi => by
    simp only [Instr.status, hi, reportedStatus, i.levStatusByte_levAfter_congr status]

/-- Settles O15: the reply is the device's status byte after the command, which the reported registers determine. -/
theorem repliesDependOnReportedStateOnly : Obligations.RepliesDependOnReportedStateOnly := by
  refine ⟨fun b s₁ s₂ t₁ t₂ color blink h₁ h₂ => ?_, fun b s₁ s₂ t₁ t₂ status h₁ h₂ => ?_⟩
  all_goals
    rw [serveFrame_eq] at h₁ h₂
    cases h₁
    cases h₂
  · exact afterFrame_ind_reply_congr b color blink
  · exact afterFrame_lev_reply_congr b status

/-- Settles O11: the step is the transaction, which serves the frame on the device at the address. -/
theorem stepRunsDecodedInstruction : Obligations.StepRunsDecodedInstruction := by
  intro s addr b rest dev i scheduled addressed decoded
  simp only [step_of_schedule scheduled, perform, transact, addressed, serveFrame, decoded]

/-- Settles O12: such a frame is not legal, so the device at the address does not execute it. -/
theorem parityInvalidFrameNotExecuted : Obligations.ParityInvalidFrameNotExecuted := by
  intro s addr b rest scheduled ha wrong
  have illegal : legalFrame b = false := beq_eq_false_iff_ne.2 wrong
  rw [step_of_schedule scheduled]
  obtain ⟨-, h⟩ | ⟨-, h⟩ | ⟨notInd, notLev, -⟩ := transact_cases addr b { s with schedule := rest, reply := none }
  · exact h.trans ((serveFrame_eq ..).trans (congrArg _ (afterFrame_of_not_legal illegal ..)))
  · exact h.trans ((serveFrame_eq ..).trans (congrArg _ (afterFrame_of_not_legal illegal ..)))
  · exact absurd ha (not_or.2 ⟨notInd, notLev⟩)

/-- Settles O16: the layout gives the range, which leaves out 0. -/
theorem indicatorStatusByteLayout : Obligations.IndicatorStatusByteLayout := fun d =>
  ⟨indStatusByte_eq d, reportedStatus_ne_zero .ind d default, indStatusByte_eq d ▸ indStatus_bounds d.blink d.color⟩

/-- A command completes with the reply pair that carries its status. -/
theorem exec_eq_of_reply {i : Instr} {s : State} {r : Reply}
    (reply : packResponse (i.status (i.indAfter s.params s.ind) (i.levAfter s.lev)) = r) :
    exec i s = .next { s with ind := i.indAfter s.params s.ind, lev := i.levAfter s.lev, reply := some r } := by
  rw [exec_eq, Instr.after, reply]

/-- Settles O17: the drive enable is no part of the status byte. -/
theorem indResetResult : Obligations.IndResetResult := fun _ s =>
  exec_eq_of_reply (packResponse_indStatusByte { s.ind with outEn := false })

/-- The sixteen frames of command code 1, in the order of DATA (R101). -/
def getFrames : List Byte :=
  [0x90#8, 0x11#8, 0x12#8, 0x93#8, 0x14#8, 0x95#8, 0x96#8, 0x17#8, 0x18#8, 0x99#8, 0x9A#8, 0x1B#8, 0x9C#8, 0x1D#8, 0x1E#8,
    0x9F#8]

/-- Each of them names the device's row 1 of the command map (R83). -/
theorem decodeInstr_of_mem_getFrames {b : Byte} (h : b ∈ getFrames) (dev : Device) :
    ∃ data, decodeInstr dev b = .ok (instrOf dev 1#3 data) := by
  have encoded : getFrames = (List.finRange 16).map fun d => encodeFrame 1#3 (BitVec.ofFin d) := by decide
  rw [encoded] at h
  obtain ⟨d, -, rfl⟩ := List.mem_map.1 h
  exact ⟨_, decodeInstr_encodeFrame ..⟩

/-- Settles O18: the command, its sixteen frames, and its replies at power-up and after IND.SET 2, 0. -/
theorem indGetResult : Obligations.IndGetResult := by
  have reply (data : Data) {s : State} {r : Reply} (h : pairOf (indStatus s.ind.blink s.ind.color) = r) :
      exec (.indGet data) s = .next { s with reply := some r } :=
    exec_eq_of_reply ((packResponse_indStatusByte s.ind).trans h)
  refine ⟨fun data s => exec_eq .., fun b hb => decodeInstr_of_mem_getFrames hb _, fun data p pins => reply data ?_,
    fun data s => ⟨_, exec_eq .., reply data ?_⟩⟩
  · exact (by decide : pairOf (indStatus false 0#3) = ⟨0x80#8, 0x7F#8⟩)
  · exact (by decide : pairOf (indStatus false 2#3) = ⟨0x82#8, 0x7D#8⟩)

/-- Settles O19: the two re-drive modes differ in the drive enable alone. -/
theorem indSetResult : Obligations.IndSetResult := by
  intro blink color s
  rw [exec_eq_of_reply (i := .indSet blink color) (s := s) (packResponse_indStatusByte _)]
  cases redrive : s.params.indRedrive <;>
    simp [Instr.indAfter, Instr.levAfter, Machine.indSet, outEnAfterSet, redrive]

/-- Settles O20: the reserved codes are not executed. -/
theorem indReservedCodesResult : Obligations.IndReservedCodesResult := fun _ s =>
  ⟨notExecuted_eq s, notExecuted_eq s, notExecuted_eq s, notExecuted_eq s, notExecuted_eq s⟩

/-- Settles O31: the reserved codes are not executed. -/
theorem levReservedCodesResult : Obligations.LevReservedCodesResult := fun _ s =>
  ⟨notExecuted_eq s, notExecuted_eq s, notExecuted_eq s, notExecuted_eq s, notExecuted_eq s⟩

/-- Settles O21: a command of the indicator leaves the lever, and every command the blink timer and the output. -/
theorem indicatorCommandsFrame : Obligations.IndicatorCommandsFrame := by
  intro i s hi
  obtain ⟨phase, count, out⟩ := i.indAfter_keeps s.params s.ind
  exact ⟨_, exec_eq i s, phase, count, out, Instr.levAfter_of_ind hi s.lev, rfl, rfl, rfl, rfl, rfl⟩

/-- Settles O32: a command of the lever leaves the indicator, and every command the latch and the counter. -/
theorem leverCommandsFrame : Obligations.LeverCommandsFrame := by
  intro i s hi
  obtain ⟨latch, count⟩ := i.levAfter_keeps s.lev
  exact ⟨_, exec_eq i s, latch, count, i.levAfter_attn s.lev, Instr.indAfter_of_lev hi s.params s.ind,
    rfl, rfl, rfl, rfl, rfl⟩

/-- Settles O27: the attention line and its timer are no part of the status byte. -/
theorem levResetResult : Obligations.LevResetResult := fun _ s =>
  exec_eq_of_reply (packResponse_levStatusByte (attnRelease s.lev))

/-- Settles O28: the command, its sixteen frames, and its replies at power-up and with the status Closed. -/
theorem levGetResult : Obligations.LevGetResult := by
  have reply (data : Data) {s : State} {r : Reply} (h : pairOf (levStatus s.lev.status) = r) :
      exec (.levGet data) s = .next { s with reply := some r } :=
    exec_eq_of_reply ((packResponse_levStatusByte s.lev).trans h)
  refine ⟨fun data s => exec_eq .., fun b hb => decodeInstr_of_mem_getFrames hb _, fun data p pins => reply data ?_,
    fun data s closed => reply data ?_⟩
  · exact (by decide : pairOf (levStatus .unknown) = ⟨0x01#8, 0xFE#8⟩)
  · rw [closed]
    decide

/-- Settles O30: the values 1, 2 and 3 name the three statuses, and any other names none. -/
theorem levSetResult : Obligations.LevSetResult := by
  have reply (value : Data) (st : LeverStatus) (named : statusOfValue value = some st) (s : State) :
      exec (.levSet value) s = .next
        { s with lev := { s.lev with status := st }, reply := some (pairOf (levStatus st)) } := by
    rw [exec_levSet_of_some named, packResponse_levStatusByte]
    rfl
  intro value s
  split_ifs with is1 is2 is3
  · exact is1 ▸ reply 1#4 .unknown rfl s
  · exact is2 ▸ reply 2#4 .closed rfl s
  · exact is3 ▸ reply 3#4 .opened rfl s
  · rw [exec_levSet_of_none (by simp [statusOfValue, is1, is2, is3])]
    rfl

end Sys2Proof
end

section
/-! PROOF. The indicator's tick (R140 to R143). One tick from a legal counter counts the ticks mod Tb and toggles the phase
when it wraps, so k ticks toggle it once for each Tb counted; what the output shows after a tick follows from the phase. -/

namespace Sys2Proof.Machine

open Sys2Proof.Claims

/-- The output after a tick is the colour, or 0 where blink is on and the phase is off (R140). -/
theorem indTick_ledOut (p : Params) (d : IndicatorState) :
    (indTick p d).ledOut = if d.blink = true ∧ (indTick p d).phaseOn = false then 0#3 else d.color := by
  simp only [indTick, Bool.and_eq_true, Bool.not_eq_true']

/-- A tick below the threshold counts, and leaves the phase (R140). -/
theorem indTick_of_counts {p : Params} {d : IndicatorState} (h : d.blinkCnt.toNat + 1 < p.blinkThreshold.val.toNat) :
    (indTick p d).blinkCnt.toNat = d.blinkCnt.toNat + 1 ∧ (indTick p d).phaseOn = d.phaseOn := by
  have counts : blinkWraps p d = false := by simpa [blinkWraps] using h
  have inRange := p.blinkThreshold.val.isLt
  simp only [indTick, counts, Bool.false_eq_true, if_false, and_true]
  rw [BitVec.toNat_add_of_lt (by simp; omega)]
  rfl

/-- A tick at the threshold starts the count again and toggles the phase (R140). -/
theorem indTick_of_wraps {p : Params} {d : IndicatorState} (h : p.blinkThreshold.val.toNat ≤ d.blinkCnt.toNat + 1) :
    (indTick p d).blinkCnt.toNat = 0 ∧ (indTick p d).phaseOn = !d.phaseOn := by
  have wraps : blinkWraps p d = true := by simpa [blinkWraps] using h
  simp [indTick, wraps]

/-- A tick keeps the counter in 0..Tb-1 (R28). -/
theorem indTick_legal (p : Params) (d : IndicatorState) : indLegal p (indTick p d) = true := by
  have one_le := p.blinkThreshold.one_le
  rcases Nat.lt_or_ge (d.blinkCnt.toNat + 1) p.blinkThreshold.val.toNat with h | h
  · simp [indLegal, (indTick_of_counts h).1, h]
  · simp only [indLegal, (indTick_of_wraps h).1, decide_eq_true_eq]
    omega

/-- Ticks keep the colour and the blink flag (R24). -/
theorem indTick_iterate_keeps (p : Params) (d : IndicatorState) (k : Nat) :
    ((indTick p)^[k] d).color = d.color ∧ ((indTick p)^[k] d).blink = d.blink := by
  induction k generalizing d with
  | zero => exact ⟨rfl, rfl⟩
  | succ k ih => exact ih (indTick p d)

/-- The output after at least one tick, from the phase after it (R140). -/
theorem indTick_iterate_ledOut (p : Params) (d : IndicatorState) {k : Nat} (h : 1 ≤ k) :
    ((indTick p)^[k] d).ledOut = if d.blink = true ∧ ((indTick p)^[k] d).phaseOn = false then 0#3 else d.color := by
  obtain ⟨k, rfl⟩ := Nat.exists_eq_add_of_le' h
  obtain ⟨color, blink⟩ := indTick_iterate_keeps p d k
  rw [Function.iterate_succ_apply', indTick_ledOut, color, blink]

/-- The phase after k ticks: toggled once for each Tb ticks counted (R142). -/
def phaseAfter (p : Params) (d : IndicatorState) (k : Nat) : Bool :=
  d.phaseOn != decide ((d.blinkCnt.toNat + k) / p.blinkThreshold.val.toNat % 2 = 1)

/-- The counter and the phase after k ticks from a legal counter (R141, R142). -/
theorem indTick_iterate_count_phase {p : Params} {d : IndicatorState} (legal : indLegal p d = true) (k : Nat) :
    ((indTick p)^[k] d).blinkCnt.toNat = (d.blinkCnt.toNat + k) % p.blinkThreshold.val.toNat
      ∧ ((indTick p)^[k] d).phaseOn = phaseAfter p d k := by
  have below : d.blinkCnt.toNat < p.blinkThreshold.val.toNat := of_decide_eq_true legal
  induction k generalizing d with
  | zero => simp [phaseAfter, Nat.mod_eq_of_lt below, Nat.div_eq_of_lt below]
  | succ k ih =>
    have legal' := indTick_legal p d
    obtain ⟨count, phase⟩ := ih legal' (of_decide_eq_true legal')
    rw [Function.iterate_succ_apply, count, phase]
    unfold phaseAfter
    rcases Nat.lt_or_ge (d.blinkCnt.toNat + 1) p.blinkThreshold.val.toNat with h | h
    · obtain ⟨count', phase'⟩ := indTick_of_counts h
      rw [count', phase', Nat.add_right_comm, Nat.add_assoc]
      exact ⟨rfl, rfl⟩
    · obtain ⟨count', phase'⟩ := indTick_of_wraps h
      have total : d.blinkCnt.toNat + (k + 1) = k + p.blinkThreshold.val.toNat := by omega
      rw [count', phase', total, Nat.zero_add, Nat.add_mod_right, Nat.add_div_right _ (by omega)]
      refine ⟨rfl, ?_⟩
      rcases Nat.mod_two_eq_zero_or_one (k / p.blinkThreshold.val.toNat) with h2 | h2 <;>
        simp [Nat.add_mod, h2]

/-- Settles O22: the step is the tick, whose four written registers are those of the pseudocode. -/
theorem indTickResult : Obligations.IndTickResult := by
  intro s rest scheduled c1 wraps ph
  have redrive : outEnAfterTick s.params s.ind.outEn = if s.params.indRedrive = .onTick then true else s.ind.outEn := by
    cases h : s.params.indRedrive <;> simp [outEnAfterTick, h]
  have count : s.ind.blinkCnt + 1#8 = BitVec.ofNat 8 c1 := by simp [c1, BitVec.ofNat_add]
  rw [step_of_schedule scheduled]
  simp only [perform, tickDevice, State.setInd, indTick, blinkWraps, decide_eq_true_eq, Bool.and_eq_true,
    Bool.not_eq_true', redrive, count]
  rfl

/-- Settles O23: counter, phase and output after k ticks. -/
theorem blinkTimerClosedForm : Obligations.BlinkTimerClosedForm := by
  intro s k legal total tb
  obtain ⟨t, run, hind, -⟩ := runTicks_ind k s
  obtain ⟨count, phase⟩ := indTick_iterate_count_phase legal k
  obtain ⟨color, blink⟩ := indTick_iterate_keeps s.params s.ind k
  refine ⟨t, run, ?_⟩
  rw [hind]
  refine ⟨count, phase, color, blink, fun hk on => ?_⟩
  rw [indTick_iterate_ledOut s.params s.ind hk, on]
  cases ((indTick s.params)^[k] s.ind).phaseOn <;> simp

/-- The output after at least one tick with blink on: the colour while the phase is on, and else 0 (R142). -/
theorem runTicks_ledOut {s : State} {k : Nat} (legal : indLegal s.params s.ind = true) (on : s.ind.blink = true)
    (hk : 1 ≤ k) :
    ∃ t, runTicks .ind k s = .next t ∧ t.ind.ledOut = if phaseAfter s.params s.ind k then s.ind.color else 0#3 := by
  obtain ⟨t, run, -, phase, -, -, out⟩ := blinkTimerClosedForm s k legal
  exact ⟨t, run, (out hk on).trans (by rw [phase]; rfl)⟩

/-- The phase toggles every Tb ticks (R142). -/
theorem phaseAfter_add_threshold (p : Params) (d : IndicatorState) (k : Nat) :
    phaseAfter p d (k + p.blinkThreshold.val.toNat) = !phaseAfter p d k := by
  have one_le := p.blinkThreshold.one_le
  unfold phaseAfter
  rw [← Nat.add_assoc, Nat.add_div_right _ one_le]
  rcases Nat.mod_two_eq_zero_or_one ((d.blinkCnt.toNat + k) / p.blinkThreshold.val.toNat) with h | h <;>
    simp [Nat.add_mod, h]

/-- The phase in the runs of Tb ticks counted from the first toggle (R142). -/
theorem phaseAfter_run {p : Params} {d : IndicatorState} (legal : indLegal p d = true) (run : Nat) {i : Nat}
    (hi : i < p.blinkThreshold.val.toNat) :
    phaseAfter p d (p.blinkThreshold.val.toNat - d.blinkCnt.toNat + run * p.blinkThreshold.val.toNat + i)
      = decide (run % 2 = 0 ↔ d.phaseOn = false) := by
  have below : d.blinkCnt.toNat < p.blinkThreshold.val.toNat := of_decide_eq_true legal
  have counted : d.blinkCnt.toNat + (p.blinkThreshold.val.toNat - d.blinkCnt.toNat + run * p.blinkThreshold.val.toNat + i)
      = i + (run + 1) * p.blinkThreshold.val.toNat := by
    rw [Nat.succ_mul]
    omega
  unfold phaseAfter
  rw [counted, Nat.add_mul_div_right _ _ (by omega), Nat.div_eq_of_lt hi, Nat.zero_add]
  rcases Nat.mod_two_eq_zero_or_one run with h | h <;> cases d.phaseOn <;> simp [Nat.add_mod, h]

/-- Settles O24: the output follows the phase, which toggles every Tb ticks. -/
theorem blinkPeriodIsTwiceThreshold : Obligations.BlinkPeriodIsTwiceThreshold := by
  intro s legal on tb first
  have below : s.ind.blinkCnt.toNat < tb := of_decide_eq_true legal
  refine ⟨fun k hk => ?_, by omega, by omega, fun run i hi => ?_⟩
  · obtain ⟨t₀, run₀, out₀⟩ := runTicks_ledOut legal on hk
    obtain ⟨t₁, run₁, out₁⟩ := runTicks_ledOut (k := k + tb) legal on (by omega)
    obtain ⟨t₂, run₂, out₂⟩ := runTicks_ledOut (k := k + 2 * tb) legal on (by omega)
    rw [phaseAfter_add_threshold] at out₁
    rw [Nat.two_mul, ← Nat.add_assoc, phaseAfter_add_threshold, phaseAfter_add_threshold, Bool.not_not] at out₂
    refine ⟨t₀, t₁, t₂, run₀, run₁, run₂, out₂.trans out₀.symm, ?_⟩
    cases phase : phaseAfter s.params s.ind k
    · exact .inr ⟨by simp [out₀, phase], by simp [out₁, phase]⟩
    · exact .inl ⟨by simp [out₀, phase], by simp [out₁, phase]⟩
  · obtain ⟨t, hrun, out⟩ := runTicks_ledOut (k := first + run * tb + i) legal on (by omega)
    refine ⟨t, hrun, ?_⟩
    rw [out, phaseAfter_run legal run hi]
    simp only [decide_eq_true_eq]

/-- Settles O25: with blink off the output after a tick is the colour. -/
theorem steadyOutputWithoutBlink : Obligations.SteadyOutputWithoutBlink := by
  intro s k off hk
  obtain ⟨t, run, hind, -⟩ := runTicks_ind k s
  refine ⟨t, run, ?_⟩
  rw [hind, indTick_iterate_ledOut s.params s.ind hk, off]
  simp

/-- A run that begins with a transaction to a device: the device serves the frame (R62). -/
theorem runEvents_transaction (dev : Device) (b : Byte) (es : List Event) (s : State) :
    runEvents (.transaction dev.address b :: es) s = runEvents es (afterFrame dev b s) := by
  refine runEvents_cons ?_
  simp only [perform, transact, ofAddress_eq_some.2 rfl, serveFrame_eq, afterFrame]
  cases decodeInstr dev b <;> rfl

/-- A run that begins with a transaction that carries a command to its device. -/
theorem runEvents_command (i : Instr) (es : List Event) (s : State) :
    runEvents (.transaction i.device.address (encode i) :: es) s = runEvents es (i.after s) := by
  rw [runEvents_transaction, afterFrame_of_decodeInstr (decodeInstr_encode i)]

/-- Settles O26: IND.SET leaves the output and writes colour and blink, from which the tick computes the output. -/
theorem indSetShowsAtNextTick : Obligations.IndSetShowsAtNextTick := by
  intro blink color s
  refine ⟨_, _, runEvents_command (.indSet blink color) [] s, rfl, indStatusByte_eq _, runTicks_succ .ind 0 _, ?_⟩
  exact indTick_ledOut ..

end Sys2Proof.Machine
end

section
/-! PROOF. The lever's tick (R170 to R174). The status a tick commits, if it commits one, is a function of the sample and the
registers before it; the registers after the tick are then written out in one record, and each statement about ticks is read
off its fields. -/

namespace Sys2Proof.Machine

open Sys2Proof.Claims

/-- The sample is the number that the levels of the two lines make (R170). -/
theorem samplePins_eq (pins : Pins) : samplePins pins = sampleOf pins := by
  obtain ⟨openN, closedN⟩ := pins
  cases openN <;> cases closedN <;> rfl

/-- The status a lever tick commits, if it commits one: at a held sample whose count runs out, the status of a clean pattern,
if it is not the one held (R171, R172). -/
def committedAt (q : Pattern) (d : LeverState) : Option LeverStatus :=
  if q = d.prev ∧ d.cnt - 1#8 = 0#8 then (statusOfPattern q).filter (· ≠ d.status) else none

/-- The attention timer after a tick that commits or not, from the timer after the countdown (R171, R172). -/
def timerAfter (h : AttnHold) (commits : Option LeverStatus) (timer : Byte) : Byte :=
  match commits, h with
  | some _, .ticks n => n.val
  | _, _ => timer

/-- A commit in one record (R172). -/
theorem commit_eq (h : AttnHold) (q : Pattern) (d : LeverState) :
    commit h q d =
      { d with
        status := ((statusOfPattern q).filter (· ≠ d.status)).getD d.status
        attn := ((statusOfPattern q).filter (· ≠ d.status)).isSome || d.attn
        attnTimer := timerAfter h ((statusOfPattern q).filter (· ≠ d.status)) d.attnTimer } := by
  obtain ⟨silent | silent, keeps⟩ | ⟨st, clean, differs, commits⟩ := commit_cases h q d
  · simp [keeps, silent, timerAfter]
  · simp [keeps, silent, timerAfter, Option.filter]
  · cases h <;> simp [commits, clean, differs, timerAfter, Option.filter, attnAssert]

/-- The lever's registers after a tick (R171). -/
theorem levTick_eq (p : Params) (pins : Pins) (d : LeverState) :
    levTick p pins d =
      { status := (committedAt (samplePins pins) d).getD d.status
        prev := samplePins pins
        cnt := if samplePins pins = d.prev ∧ d.cnt - 1#8 ≠ 0#8 then d.cnt - 1#8 else p.debounceThreshold.val
        attn := (committedAt (samplePins pins) d).isSome || (attnCountdown p.attnHold d).attn
        attnTimer := timerAfter p.attnHold (committedAt (samplePins pins) d) (attnCountdown p.attnHold d).attnTimer } := by
  obtain ⟨status, prev, cnt⟩ := attnCountdown_keeps p.attnHold d
  have outcomes := debounce_cases p (samplePins pins) (attnCountdown p.attnHold d)
  rw [prev, cnt] at outcomes
  obtain ⟨changed, h⟩ | ⟨same, counts, h⟩ | ⟨same, runsOut, h⟩ := outcomes
  · rw [levTick, h]
    simp [committedAt, changed, status, timerAfter]
  · rw [levTick, h]
    simp [committedAt, same, counts, status, timerAfter]
  · rw [levTick, h, commit_eq]
    simp [committedAt, same, runsOut, status]

/-- The attention hold countdown as the pseudocode of R171 has it. -/
theorem holdAfter_eq (h : AttnHold) (d : LeverState) :
    holdAfter h d.attn d.attnTimer = ((attnCountdown h d).attn, (attnCountdown h d).attnTimer) := by
  cases h with
  | untilReset => rfl
  | ticks n => cases attn : d.attn <;> simp [holdAfter, attnCountdown, attn, bne, beq_eq_decide]

/-- The committed status as the pseudocode of R171 and R172 has it. -/
theorem committedAt_eq (q : Pattern) (d : LeverState) :
    committedAt q d =
      if q = d.prev ∧ d.cnt - 1#8 = 0#8 then
        if q = 0b01#2 ∧ d.status ≠ .opened then some .opened
        else if q = 0b10#2 ∧ d.status ≠ .closed then some .closed
        else none
      else none := by
  have clean : (statusOfPattern q).filter (· ≠ d.status) =
      if q = 0b01#2 ∧ d.status ≠ .opened then some .opened
      else if q = 0b10#2 ∧ d.status ≠ .closed then some .closed
      else none := by
    revert q
    cases d.status <;> decide
  rw [committedAt, clean]

/-- Settles O33: the record of `levTick_eq`, in the words of the pseudocode. -/
theorem levTickResult : Obligations.LevTickResult := by
  intro s rest scheduled q k held commits
  have hq : samplePins s.pins = q := samplePins_eq s.pins
  have hcommits : committedAt q s.lev = commits := committedAt_eq q s.lev
  have hheld : held = _ := holdAfter_eq s.params.attnHold s.lev
  rw [step_of_schedule scheduled, hheld]
  simp only [perform, tickDevice, State.setLev, levTick_eq, hq, hcommits, timerAfter]
  rfl

/-- A tick whose sample is not the one before it latches it, starts the count again and keeps the status (R171). -/
theorem levTick_of_changed {p : Params} {pins : Pins} {d : LeverState} (h : samplePins pins ≠ d.prev) :
    (levTick p pins d).status = d.status ∧ (levTick p pins d).cnt = p.debounceThreshold.val := by
  simp [levTick_eq, committedAt, h]

/-- Settles O34: each tick of the run finds a changed sample. -/
theorem chatterNeverCommits : Obligations.ChatterNeverCommits := by
  intro s ps differs
  induction ps generalizing s with
  | nil => exact ⟨s, rfl, rfl, fun h => absurd rfl h⟩
  | cons pins ps ih =>
    obtain ⟨changed, differs⟩ := differs
    rw [← samplePins_eq] at changed differs
    obtain ⟨status, count⟩ := levTick_of_changed (p := s.params) changed
    obtain ⟨t, run, status', count'⟩ := ih (tickDevice .lev (s.setPins ⟨pins.openN, pins.closedN⟩).clearReply).clearReply
      (by simpa [tickDevice, levTick_prev] using differs)
    refine ⟨t, ?_, status'.trans status, fun _ => ?_⟩
    · exact ((runEvents_pins ..).trans (runEvents_tick ..)).trans run
    · cases ps with
      | nil =>
        cases run
        exact count
      | cons => exact count' (by simp)

/-- A tick commits nothing where the sample stands for no status, or for the one held (R172). -/
theorem committedAt_of_silent {q : Pattern} {d : LeverState}
    (h : statusOfPattern q = none ∨ statusOfPattern q = some d.status) : committedAt q d = none := by
  obtain h | h := h <;> simp [committedAt, h, Option.filter]

/-- While the sample stands for no status, or for the one held, no tick changes the status (R175, R176, R179). -/
theorem levTick_iterate_status_of_silent {p : Params} {pins : Pins} {d : LeverState}
    (h : statusOfPattern (samplePins pins) = none ∨ statusOfPattern (samplePins pins) = some d.status) (k : Nat) :
    ((levTick p pins)^[k] d).status = d.status := by
  induction k generalizing d with
  | zero => rfl
  | succ k ih =>
    have keeps : (levTick p pins d).status = d.status := by simp [levTick_eq, committedAt_of_silent h]
    exact (ih (keeps ▸ h)).trans keeps

/-- Settles O37: neither pattern stands for a status. -/
theorem uncleanPatternNeverCommits : Obligations.UncleanPatternNeverCommits := by
  intro s k unclean
  have silent : statusOfPattern (samplePins s.pins) = none := by obtain h | h := unclean <;> rw [h] <;> decide
  obtain ⟨t, run, hlev, -⟩ := runTicks_lev k s
  exact ⟨t, run, hlev ▸ levTick_iterate_status_of_silent (.inl silent) k⟩

/-- A tick with a held clean pattern whose count runs out leaves its status, and asserts attention if it is a new one (R172,
R173). -/
theorem levTick_of_runsOut {p : Params} {pins : Pins} {d : LeverState} {st : LeverStatus}
    (clean : statusOfPattern (samplePins pins) = some st) (same : samplePins pins = d.prev)
    (runsOut : d.cnt - 1#8 = 0#8) :
    (levTick p pins d).status = st ∧ (st ≠ d.status → (levTick p pins d).attn = true) := by
  by_cases new : st = d.status
  · have silent := committedAt_of_silent (d := d) (.inr (new ▸ clean))
    exact ⟨by simp [levTick_eq, silent, new], fun h => absurd new h⟩
  · have commits : committedAt (samplePins pins) d = some st := by
      simp [committedAt, ← same, runsOut, clean, Option.filter, new]
    simp [levTick_eq, commits]

/-- A tick with a held pattern whose count has not run out counts down and keeps the status (R171). -/
theorem levTick_of_counts {p : Params} {pins : Pins} {d : LeverState} (same : samplePins pins = d.prev)
    (counts : d.cnt - 1#8 ≠ 0#8) :
    (levTick p pins d).status = d.status ∧ (levTick p pins d).cnt = d.cnt - 1#8 := by
  simp [levTick_eq, committedAt, same, counts]

/-- The debounce counter goes down by one. -/
theorem toNat_sub_one {c : Byte} (h : 1 ≤ c.toNat) : (c - 1#8).toNat = c.toNat - 1 :=
  BitVec.toNat_sub_of_le h

/-- A held clean pattern of the status `st` sets the status at the tick at which the counter runs out, and attention if the
status is a new one; no tick before it changes the status, and none after it (R178, R180). -/
theorem levTick_iterate_of_held {p : Params} {pins : Pins} {d : LeverState} {st : LeverStatus}
    (clean : statusOfPattern (samplePins pins) = some st) (same : samplePins pins = d.prev) (counting : 1 ≤ d.cnt.toNat)
    (k : Nat) :
    ((levTick p pins)^[k] d).status = (if k < d.cnt.toNat then d.status else st)
      ∧ (k = d.cnt.toNat → st ≠ d.status → ((levTick p pins)^[k] d).attn = true) := by
  induction k generalizing d with
  | zero => exact ⟨(if_pos counting).symm, fun h => absurd h (by omega)⟩
  | succ k ih =>
    have down := toNat_sub_one counting
    rw [Function.iterate_succ_apply]
    by_cases runsOut : d.cnt - 1#8 = 0#8
    · have one : d.cnt.toNat = 1 := by
        have zero : d.cnt.toNat - 1 = 0 := down.symm.trans (congrArg BitVec.toNat runsOut)
        omega
      obtain ⟨settled, asserted⟩ := levTick_of_runsOut (p := p) clean same runsOut
      have stays := levTick_iterate_status_of_silent (p := p) (.inr (settled ▸ clean)) k
      rw [stays, settled, one, if_neg (by omega)]
      refine ⟨rfl, fun last new => ?_⟩
      obtain rfl : k = 0 := by omega
      exact asserted new
    · have more : d.cnt.toNat ≠ 1 := fun one => runsOut (BitVec.eq_of_toNat_eq (by simp [down, one]))
      obtain ⟨status, count⟩ := levTick_of_counts (p := p) same runsOut
      obtain ⟨status', attn'⟩ := ih (levTick_prev p pins d).symm (by rw [count]; omega)
      rw [count, down, status] at status' attn'
      refine ⟨?_, fun last => attn' (by omega)⟩
      rw [status']
      congr 1
      simp only [eq_iff_iff]
      omega

/-- The status a clean pattern of the two stands for (R172). -/
theorem statusOfPattern_of_clean {q : Pattern} {st : LeverStatus}
    (h : q = 0b01#2 ∧ st = .opened ∨ q = 0b10#2 ∧ st = .closed) : statusOfPattern q = some st := by
  obtain ⟨rfl, rfl⟩ | ⟨rfl, rfl⟩ := h <;> rfl

/-- Settles O35: the first tick latches the pattern and starts the count at Td. -/
theorem stableRunCommitsOnce : Obligations.StableRunCommitsOnce := by
  intro s k st new clean
  rw [← samplePins_eq] at new clean
  obtain ⟨t, run, hlev, -⟩ := runTicks_lev (k + 1) s
  obtain ⟨status, count⟩ := levTick_of_changed (p := s.params) new
  obtain ⟨status', attn'⟩ := levTick_iterate_of_held (p := s.params) (statusOfPattern_of_clean clean)
    (levTick_prev s.params s.pins s.lev).symm (count ▸ s.params.debounceThreshold.one_le) k
  refine ⟨t, run, ?_⟩
  rw [hlev, Function.iterate_succ_apply]
  rw [status, count] at status' attn'
  exact ⟨status', attn'⟩

/-- Settles O36: the pattern is latched already, and the count stands between 1 and Td. -/
theorem heldPatternIsRecommitted : Obligations.HeldPatternIsRecommitted := by
  intro s k st legal same clean new
  rw [← samplePins_eq] at same
  obtain ⟨⟨one_le, le⟩, -⟩ : (1 ≤ s.lev.cnt.toNat ∧ s.lev.cnt.toNat ≤ s.params.debounceThreshold.val.toNat) ∧ _ := by
    simpa [levLegal] using legal
  obtain ⟨t, run, hlev, -⟩ := runTicks_lev k s
  obtain ⟨status, attn⟩ := levTick_iterate_of_held (p := s.params) (statusOfPattern_of_clean (same ▸ clean)) same one_le k
  refine ⟨le, t, run, ?_⟩
  rw [hlev]
  exact ⟨status, fun last => attn last new⟩

/-- Under `UntilReset` no tick releases the line (R174). -/
theorem levTick_iterate_attn_of_untilReset {p : Params} {pins : Pins} {d : LeverState} (h : p.attnHold = .untilReset)
    (asserted : d.attn = true) (k : Nat) : ((levTick p pins)^[k] d).attn = true := by
  induction k generalizing d with
  | zero => exact asserted
  | succ k ih => exact ih (by simp [levTick_eq, h, attnCountdown, asserted])

/-- Under `Ticks(n)` a legal timer is at most n, and it is not 0 exactly while the line is asserted (R38). -/
theorem attnLegal_ticks {n : Threshold} {d : LeverState} :
    attnLegal (.ticks n) d = true ↔ d.attn = decide (0 < d.attnTimer.toNat) ∧ d.attnTimer.toNat ≤ n.val.toNat := by
  have zero : d.attnTimer = 0#8 ↔ d.attnTimer.toNat = 0 := BitVec.toNat_inj.symm
  cases attn : d.attn
  · simp [attnLegal, attn, zero]
    omega
  · simp [attnLegal, attn, Nat.one_le_iff_ne_zero, Nat.pos_iff_ne_zero]

/-- Under `Ticks(n)` the countdown takes the timer down by one, not below 0, and leaves the line asserted while the timer is
not 0 (R171). -/
theorem attnCountdown_of_ticks {n : Threshold} {d : LeverState} (held : d.attn = decide (0 < d.attnTimer.toNat)) :
    (attnCountdown (.ticks n) d).attnTimer.toNat = d.attnTimer.toNat - 1
      ∧ (attnCountdown (.ticks n) d).attn = decide (0 < d.attnTimer.toNat - 1) := by
  rcases Nat.eq_zero_or_pos d.attnTimer.toNat with zero | pos
  · rw [attnCountdown_of_released _ (by simp [held, zero])]
    simp [held, zero]
  · have down := toNat_sub_one pos
    have nonzero : (d.attnTimer - 1#8 != 0#8) = decide (0 < d.attnTimer.toNat - 1) := by
      rw [← down, Bool.eq_iff_iff, bne_iff_ne, decide_eq_true_iff, Nat.pos_iff_ne_zero]
      exact BitVec.toNat_inj.symm.not
    have asserted : d.attn = true := by simp [held, pos]
    simp only [attnCountdown, asserted, if_true]
    exact ⟨down, nonzero⟩

/-- Under `Ticks(n)` ticks that commit nothing take the timer down to 0, and the line is asserted while it is not 0
(R174). -/
theorem levTick_iterate_attn_of_ticks {p : Params} {pins : Pins} {d : LeverState} {n : Threshold} (h : p.attnHold = .ticks n)
    (silent : statusOfPattern (samplePins pins) = none ∨ statusOfPattern (samplePins pins) = some d.status)
    (held : d.attn = decide (0 < d.attnTimer.toNat)) (k : Nat) :
    ((levTick p pins)^[k] d).attn = decide (k < d.attnTimer.toNat)
      ∧ ((levTick p pins)^[k] d).attnTimer.toNat = d.attnTimer.toNat - k := by
  induction k generalizing d with
  | zero => exact ⟨held, rfl⟩
  | succ k ih =>
    have status : (levTick p pins d).status = d.status := levTick_iterate_status_of_silent silent 1
    have tick : (levTick p pins d).attn = (attnCountdown (.ticks n) d).attn
        ∧ (levTick p pins d).attnTimer = (attnCountdown (.ticks n) d).attnTimer := by
      simp [levTick_eq, committedAt_of_silent silent, h, timerAfter]
    obtain ⟨timer, attn⟩ := attnCountdown_of_ticks (n := n) held
    rw [← tick.1] at attn
    rw [← tick.2] at timer
    obtain ⟨attn', timer'⟩ := ih (status ▸ silent) (timer ▸ attn)
    rw [timer] at attn' timer'
    rw [Function.iterate_succ_apply, attn', timer']
    exact ⟨decide_eq_decide.2 (by omega), by omega⟩

/-- Settles O39: the lines show no pattern that asserts the line again. -/
theorem attentionHoldTime : Obligations.AttentionHoldTime := by
  intro s k legal asserted lines
  have silent : statusOfPattern (samplePins s.pins) = none ∨ statusOfPattern (samplePins s.pins) = some s.lev.status := by
    rw [samplePins_eq]
    obtain h | h | ⟨h, status⟩ | ⟨h, status⟩ := lines
    · exact .inl (h ▸ rfl)
    · exact .inl (h ▸ rfl)
    · exact .inr (by rw [h, status]; rfl)
    · exact .inr (by rw [h, status]; rfl)
  obtain ⟨t, run, hlev, -⟩ := runTicks_lev k s
  refine ⟨t, run, ?_⟩
  rw [hlev]
  cases hold : s.params.attnHold with
  | untilReset => exact ⟨fun _ => levTick_iterate_attn_of_untilReset hold asserted k, fun h => absurd rfl h⟩
  | ticks n =>
    obtain ⟨held, -⟩ := attnLegal_ticks.1 (hold ▸ legal)
    exact ⟨nofun, fun _ => levTick_iterate_attn_of_ticks hold silent held k⟩

end Sys2Proof.Machine
end

section
/-! PROOF. What a step can do to each part of the machine. The registers after a step are functions of the event and of the
registers before it: a tick, a power cycle, or the command the step delivers to the device; the host's state makes one of its
moves. The statements over every step are read off that. -/

namespace Sys2Proof.Machine

open Sys2Proof.Claims

/-! A frame step, part by part. -/

section AfterFrame

variable (dev : Device) (b : Byte) (s : State)

/-- A frame step writes the indicator as the command does that the frame decodes to. -/
@[simp] theorem afterFrame_ind :
    (afterFrame dev b s).ind = (decodeInstr dev b).toOption.elim s.ind (·.indAfter s.params s.ind) := by
  unfold afterFrame
  cases decodeInstr dev b <;> rfl

/-- A frame step writes the lever as the command does that the frame decodes to. -/
@[simp] theorem afterFrame_lev :
    (afterFrame dev b s).lev = (decodeInstr dev b).toOption.elim s.lev (·.levAfter s.lev) := by
  unfold afterFrame
  cases decodeInstr dev b <;> rfl

/-- A frame step writes registers and the reply only. -/
theorem afterFrame_keeps : (afterFrame dev b s).params = s.params ∧ (afterFrame dev b s).pins = s.pins
    ∧ (afterFrame dev b s).host = s.host ∧ (afterFrame dev b s).schedule = s.schedule
    ∧ (afterFrame dev b s).draws = s.draws := by
  unfold afterFrame
  cases decodeInstr dev b <;> exact ⟨rfl, rfl, rfl, rfl, rfl⟩

end AfterFrame

/-- A transaction is a frame step of the device at the address; with no device there the model refuses (R62, R63). -/
theorem transact_eq_cases (a : BusAddress) (b : Byte) (s : State) :
    (∃ dev, a = Device.address dev ∧ transact a b s = .next (afterFrame dev b s))
      ∨ (a ≠ 0x20 ∧ a ≠ 0x24 ∧ transact a b s = .refused (.noDeviceAtAddress a)) := by
  obtain ⟨ha, h⟩ | ⟨ha, h⟩ | absent := transact_cases a b s
  · exact .inl ⟨.ind, ha, h.trans (serveFrame_eq ..)⟩
  · exact .inl ⟨.lev, ha, h.trans (serveFrame_eq ..)⟩
  · exact .inr absent

/-- What one event can do to the host's state (R202 to R204): nothing, the first lines of `send`, the end of a call without
an attempt left, or one attempt. -/
def HostMoves (p : Params) (h h' : HostState) : Prop :=
  h' = h ∨ (h.call = none ∧ ∃ r, h' = beginCall p r)
    ∨ ∃ c, h.call = some c ∧
      ((c.attemptsRemaining = 0 ∧ h' = { h with call := none, result := some .exhausted })
        ∨ ∃ left read, c.attemptsRemaining = left + 1 ∧ h' = afterAttempt c left h.issued read)

/-- What a turn of the host can do (R202, R212): it delivers no byte and writes its own state, or it delivers the frame of
its call, and then it is a frame step that writes the host's state too, or it is refused. -/
theorem hostTurn_cases (r : Request) (n : Noise) (s : State) :
    (∃ host, delivers (.host r n) s = none ∧ HostMoves s.params s.host host ∧ hostTurn r n s = .next (s.setHost host))
      ∨ ∃ a b, delivers (.host r n) s = some (a, b) ∧
        ((∃ dev host, a = Device.address dev ∧ HostMoves s.params s.host host
            ∧ hostTurn r n s = .next ((afterFrame dev b s).setHost host))
          ∨ (a ≠ 0x20 ∧ a ≠ 0x24 ∧ hostTurn r n s = .refused (.noDeviceAtAddress a))) := by
  cases call : s.host.call with
  | none =>
    exact .inl ⟨beginCall s.params r, by simp [delivers, call], .inr (.inl ⟨call, r, rfl⟩), by simp [hostTurn, call]⟩
  | some c =>
    have turn : hostTurn r n s = attempt c n s := by simp [hostTurn, call]
    rw [turn]
    obtain ⟨spent, h⟩ | ⟨left, remaining, h⟩ := attempt_cases c n s
    · exact .inl ⟨_, by simp [delivers, call, spent], .inr (.inr ⟨c, call, .inl ⟨spent, rfl⟩⟩), h⟩
    · refine .inr ⟨c.addr, c.frame ^^^ n.frame, by simp [delivers, call, remaining], ?_⟩
      obtain ⟨dev, ha, served⟩ | ⟨notInd, notLev, refused⟩ := transact_eq_cases c.addr (c.frame ^^^ n.frame) s
      · obtain ⟨t, served', h⟩ | ⟨refused, -⟩ := h
        · cases served.symm.trans served'
          exact .inl ⟨dev, _, ha, .inr (.inr ⟨c, call, .inr ⟨left, _, remaining, rfl⟩⟩), h⟩
        · cases served.symm.trans refused
      · obtain ⟨t, served, -⟩ | ⟨-, h⟩ := h
        · cases refused.symm.trans served
        · exact .inr ⟨notInd, notLev, h⟩

/-- The event a step takes delivers the same byte in the state without it. -/
theorem delivers_takeEvent (e : Event) (s : State) : delivers e s.takeEvent.2.clearReply = delivers e s := by
  cases e <;> simp [delivers]

/-- The command a step delivers, where it delivers a byte to a device. -/
theorem deliveredInstr_of_delivers {s : State} {dev : Device} {b : Byte}
    (h : delivers s.takeEvent.1 s = some (dev.address, b)) : s.deliveredInstr = (decodeInstr dev b).toOption := by
  simp [State.deliveredInstr, h, ofAddress_eq_some.2 rfl]

/-- A step that delivers no byte delivers no command. -/
theorem deliveredInstr_of_not_delivers {s : State} (h : delivers s.takeEvent.1 s = none) : s.deliveredInstr = none := by
  simp [State.deliveredInstr, h]

/-- The indicator's registers after a step (R43). -/
def State.nextInd (s : State) : IndicatorState :=
  match s.takeEvent.1 with
  | .tick .ind => indTick s.params s.ind
  | .powerCycle .ind => IndicatorState.powerUp s.params
  | _ => s.deliveredInstr.elim s.ind (·.indAfter s.params s.ind)

/-- The lever's registers after a step (R43). -/
def State.nextLev (s : State) : LeverState :=
  match s.takeEvent.1 with
  | .tick .lev => levTick s.params s.pins s.lev
  | .powerCycle .lev => LeverState.powerUp s.params
  | _ => s.deliveredInstr.elim s.lev (·.levAfter s.lev)

/-- The lever's input lines after a step (R39). -/
def State.nextPins (s : State) : Pins :=
  match s.takeEvent.1 with
  | .pins openN closedN => ⟨openN, closedN⟩
  | _ => s.pins

/-- The parts of the state after a step. -/
structure StepParts (s t : State) : Prop where
  ind : t.ind = s.nextInd
  lev : t.lev = s.nextLev
  pins : t.pins = s.nextPins
  params : t.params = s.params
  host : HostMoves s.params s.host t.host
  schedule : t.schedule = s.takeEvent.2.schedule
  draws : t.draws = s.takeEvent.2.draws
  reply : ∀ (dev : Device) (b : Byte), delivers s.takeEvent.1 s = some (dev.address, b) →
    t.reply = (afterFrame dev b s).reply

/-- The parts of the state after a frame step that the event of this step delivers. -/
theorem stepParts_of_served {s : State} {dev : Device} {b : Byte} {host : HostState}
    (delivered : delivers s.takeEvent.1 s = some (dev.address, b)) (moves : HostMoves s.params s.host host) :
    StepParts s ((afterFrame dev b s.takeEvent.2.clearReply).setHost host) := by
  have command := deliveredInstr_of_delivers delivered
  obtain ⟨params, pins, -, schedule, draws⟩ := afterFrame_keeps dev b s.takeEvent.2.clearReply
  cases e : s.takeEvent.1 with
  | tick | pins | powerCycle => simp [e, delivers] at delivered
  | transaction | host =>
    constructor
    case ind => simp [State.nextInd, e, command]
    case lev => simp [State.nextLev, e, command]
    case pins => simpa [State.nextPins, e] using pins
    case params => simpa using params
    case host => exact moves
    case schedule => exact schedule
    case draws => exact draws
    case reply =>
      intro dev' b' delivered'
      obtain ⟨address, rfl⟩ : dev.address = dev'.address ∧ b = b' := by
        simpa using delivered.symm.trans delivered'
      obtain rfl : dev = dev' := by simpa [ofAddress_eq_some.2 rfl] using congrArg Device.ofAddress address
      exact afterFrame_reply_congr fun i _ => by simp

/-- What a step does to each part of the state, and when it answers none (R43, R63, R223). -/
theorem step_cases (s : State) :
    (∃ t, step s = .next t ∧ StepParts s t)
      ∨ ∃ a b, delivers s.takeEvent.1 s = some (a, b) ∧ a ≠ 0x20 ∧ a ≠ 0x24
        ∧ step s = .refused (.noDeviceAtAddress a) := by
  have bytes := delivers_takeEvent s.takeEvent.1 s
  have silent (h : delivers s.takeEvent.1 s = none) := deliveredInstr_of_not_delivers h
  rw [step_eq]
  cases e : s.takeEvent.1 with
  | tick dev =>
    refine .inl ⟨_, rfl, ?_⟩
    cases dev
    all_goals constructor
    all_goals simp [tickDevice, State.nextInd, State.nextLev, State.nextPins, e, silent, delivers, HostMoves]
  | pins openN closedN =>
    refine .inl ⟨_, rfl, ?_⟩
    constructor
    all_goals simp [State.nextInd, State.nextLev, State.nextPins, e, silent, delivers, HostMoves]
  | powerCycle dev =>
    refine .inl ⟨_, rfl, ?_⟩
    cases dev
    all_goals constructor
    all_goals simp [powerCycle, State.nextInd, State.nextLev, State.nextPins, e, silent, delivers, HostMoves]
  | transaction a b =>
    have delivered : delivers s.takeEvent.1 s = some (a, b) := by rw [e]; rfl
    obtain ⟨dev, rfl, served⟩ | ⟨notInd, notLev, refused⟩ := transact_eq_cases a b s.takeEvent.2.clearReply
    · have host := (afterFrame_keeps dev b s.takeEvent.2.clearReply).2.2.1
      exact .inl ⟨_, served, stepParts_of_served delivered (.inl (host.trans (by simp)))⟩
    · exact .inr ⟨a, b, rfl, notInd, notLev, refused⟩
  | host r n =>
    rw [e] at bytes
    obtain ⟨host, quiet, moves, turn⟩ | ⟨a, b, delivered, h⟩ := hostTurn_cases r n s.takeEvent.2.clearReply
    · refine .inl ⟨_, turn, ?_⟩
      have command := deliveredInstr_of_not_delivers (s := s) (by rw [e, ← bytes, quiet])
      rw [bytes] at quiet
      constructor
      case host => simpa using moves
      all_goals simp [State.nextInd, State.nextLev, State.nextPins, e, command, quiet]
    · obtain ⟨dev, host, rfl, moves, turn⟩ | ⟨notInd, notLev, turn⟩ := h
      · exact .inl ⟨_, turn, stepParts_of_served (by rw [e, ← bytes, delivered]) (by simpa using moves)⟩
      · exact .inr ⟨a, b, bytes ▸ delivered, notInd, notLev, turn⟩

/-- The parts of a next state. -/
theorem StepParts.of_step {s t : State} (h : step s = .next t) : StepParts s t := by
  obtain ⟨t', h', parts⟩ | ⟨a, b, -, -, -, refused⟩ := step_cases s
  · cases h.symm.trans h'
    exact parts
  · cases h.symm.trans refused

end Sys2Proof.Machine
end

section
/-! PROOF. The invariant: every part of a legal state stays legal, the registers of each device under its tick, its commands
and power loss, and the host's state under each of its moves. -/

namespace Sys2Proof.Machine

open Sys2Proof.Claims

/-- What the indicator's registers are after a step (R43). -/
theorem nextInd_cases (s : State) :
    (s.takeEvent.1 = .tick .ind ∧ s.nextInd = indTick s.params s.ind)
      ∨ (s.takeEvent.1 = .powerCycle .ind ∧ s.nextInd = IndicatorState.powerUp s.params)
      ∨ (∃ i, s.deliveredInstr = some i ∧ s.nextInd = i.indAfter s.params s.ind)
      ∨ s.nextInd = s.ind := by
  unfold State.nextInd
  split
  · exact .inl ⟨‹_›, rfl⟩
  · exact .inr (.inl ⟨‹_›, rfl⟩)
  · cases command : s.deliveredInstr with
    | none => exact .inr (.inr (.inr rfl))
    | some i => exact .inr (.inr (.inl ⟨i, rfl, rfl⟩))

/-- What the lever's registers are after a step (R43). -/
theorem nextLev_cases (s : State) :
    (s.takeEvent.1 = .tick .lev ∧ s.nextLev = levTick s.params s.pins s.lev)
      ∨ (s.takeEvent.1 = .powerCycle .lev ∧ s.nextLev = LeverState.powerUp s.params)
      ∨ (∃ i, s.deliveredInstr = some i ∧ s.nextLev = i.levAfter s.lev)
      ∨ s.nextLev = s.lev := by
  unfold State.nextLev
  split
  · exact .inl ⟨‹_›, rfl⟩
  · exact .inr (.inl ⟨‹_›, rfl⟩)
  · cases command : s.deliveredInstr with
    | none => exact .inr (.inr (.inr rfl))
    | some i => exact .inr (.inr (.inl ⟨i, rfl, rfl⟩))

/-- The blink counter is legal at power-up (R250). -/
theorem indLegal_powerUp (p : Params) : indLegal p (IndicatorState.powerUp p) = true :=
  decide_eq_true p.blinkThreshold.one_le

/-- A step keeps the blink counter legal (R28). -/
theorem nextInd_legal {s : State} (h : indLegal s.params s.ind = true) : indLegal s.params s.nextInd = true := by
  obtain ⟨-, next⟩ | ⟨-, next⟩ | ⟨i, -, next⟩ | next := nextInd_cases s <;> rw [next]
  · exact indTick_legal ..
  · exact indLegal_powerUp _
  · obtain ⟨-, count, -⟩ := i.indAfter_keeps s.params s.ind
    simpa only [indLegal, count] using h
  · exact h

/-- The lever's registers are legal when the counter and the timer are (R36, R38). -/
theorem levLegal_iff {p : Params} {d : LeverState} : levLegal p d = true ↔
    (1 ≤ d.cnt.toNat ∧ d.cnt.toNat ≤ p.debounceThreshold.val.toNat) ∧ attnLegal p.attnHold d = true := by
  simp [levLegal]

/-- Only the line and the timer make the attention legal (R38). -/
theorem attnLegal_congr {h : AttnHold} {d d' : LeverState} (attn : d'.attn = d.attn) (timer : d'.attnTimer = d.attnTimer) :
    attnLegal h d' = attnLegal h d := by
  simp only [attnLegal, attn, timer]

/-- A released line with its timer cleared is legal in both modes (R38). -/
theorem attnLegal_of_released {h : AttnHold} {d : LeverState} (attn : d.attn = false) (timer : d.attnTimer = 0#8) :
    attnLegal h d = true := by
  cases h <;> simp [attnLegal, attn, timer]

/-- A lever tick keeps the attention timer legal (R38, R171). -/
theorem levTick_attnLegal (p : Params) (pins : Pins) {d : LeverState} (legal : attnLegal p.attnHold d = true) :
    attnLegal p.attnHold (levTick p pins d) = true := by
  rw [levTick_eq]
  cases hold : p.attnHold with
  | untilReset => simpa [hold, attnLegal, timerAfter, attnCountdown] using legal
  | ticks n =>
    rw [hold, attnLegal_ticks] at legal
    obtain ⟨held, le⟩ := legal
    obtain ⟨timer, attn⟩ := attnCountdown_of_ticks (n := n) held
    rw [attnLegal_ticks]
    cases committedAt (samplePins pins) d with
    | none => exact ⟨by simp [timerAfter, timer, attn], by simp [timerAfter, timer]; omega⟩
    | some st => exact ⟨(decide_eq_true n.one_le).symm, le_refl _⟩

/-- A lever tick keeps the debounce counter in 1..Td (R36). -/
theorem levTick_cnt_bounds (p : Params) (pins : Pins) {d : LeverState}
    (legal : 1 ≤ d.cnt.toNat ∧ d.cnt.toNat ≤ p.debounceThreshold.val.toNat) :
    1 ≤ (levTick p pins d).cnt.toNat ∧ (levTick p pins d).cnt.toNat ≤ p.debounceThreshold.val.toNat := by
  have down := toNat_sub_one legal.1
  rw [levTick_eq]
  dsimp only
  split
  case isTrue counts =>
    have nonzero : (d.cnt - 1#8).toNat ≠ 0 := fun zero => counts.2 (BitVec.eq_of_toNat_eq zero)
    omega
  case isFalse => exact ⟨p.debounceThreshold.one_le, le_refl _⟩

/-- The lever is legal at power-up (R250). -/
theorem levLegal_powerUp (p : Params) : levLegal p (LeverState.powerUp p) = true :=
  levLegal_iff.2 ⟨⟨p.debounceThreshold.one_le, le_refl _⟩, attnLegal_of_released rfl rfl⟩

/-- A command keeps the lever legal (R36, R38). -/
theorem levAfter_legal (i : Instr) {p : Params} {d : LeverState} (h : levLegal p d = true) :
    levLegal p (i.levAfter d) = true := by
  obtain ⟨-, count⟩ := i.levAfter_keeps d
  obtain ⟨bounds, attnOk⟩ := levLegal_iff.1 h
  refine levLegal_iff.2 ⟨count ▸ bounds, ?_⟩
  obtain ⟨attn, timer⟩ | ⟨-, -, attn, timer⟩ := i.levAfter_attn d
  · exact (attnLegal_congr attn timer).trans attnOk
  · exact attnLegal_of_released attn timer

/-- A step keeps the lever's registers legal (R36, R38). -/
theorem nextLev_legal {s : State} (h : levLegal s.params s.lev = true) : levLegal s.params s.nextLev = true := by
  obtain ⟨bounds, attnOk⟩ := levLegal_iff.1 h
  obtain ⟨-, next⟩ | ⟨-, next⟩ | ⟨i, -, next⟩ | next := nextLev_cases s <;> rw [next]
  · exact levLegal_iff.2 ⟨levTick_cnt_bounds _ _ bounds, levTick_attnLegal _ _ attnOk⟩
  · exact levLegal_powerUp _
  · exact levAfter_legal i h
  · exact h

/-- A call in progress is legal when its frame is, it has an attempt left, those left and those issued make the budget, and
it has not returned (R202, R204). -/
theorem hostLegal_calling {p : Params} {c : HostCall} {issued : Nat} {result : Option SendResult} :
    hostLegal p ⟨some c, issued, result⟩ = true ↔ legalFrame c.frame = true ∧ 1 ≤ c.attemptsRemaining
      ∧ c.attemptsRemaining + issued = p.maxAttempts.val ∧ result = none := by
  simp [hostLegal, and_assoc]

/-- A host in no call is legal when the latest call has issued no more than its budget (R204). -/
theorem hostLegal_idle {p : Params} {issued : Nat} {result : Option SendResult} :
    hostLegal p ⟨none, issued, result⟩ = true ↔ issued ≤ p.maxAttempts.val := by
  simp [hostLegal]

/-- What an attempt can leave of the host's state: the call is over, or in progress with the attempts left (R202 to R204). -/
theorem afterAttempt_cases (c : HostCall) (left issued : Nat) (read : Option Reply) :
    (∃ r, afterAttempt c left issued read = ⟨none, issued + 1, some r⟩)
      ∨ (left ≠ 0 ∧ afterAttempt c left issued read = ⟨some { c with attemptsRemaining := left }, issued + 1, none⟩) := by
  unfold afterAttempt
  split <;> [skip; split]
  · exact .inl ⟨_, rfl⟩
  · exact .inl ⟨_, rfl⟩
  · exact .inr ⟨‹_›, rfl⟩

/-- The first lines of `send` leave a legal host (R202). -/
theorem beginCall_legal (p : Params) (r : Request) : hostLegal p (beginCall p r) = true := by
  obtain ⟨-, h⟩ | ⟨-, h⟩ := beginCall_cases p r <;> rw [h]
  · exact hostLegal_idle.2 (Nat.zero_le _)
  · exact hostLegal_calling.2 ⟨legalFrame_encodeFrame .., p.maxAttempts.pos, rfl, rfl⟩

/-- A move of the host keeps it legal (R202, R204). -/
theorem HostMoves.legal {p : Params} {h h' : HostState} (moves : HostMoves p h h') (legal : hostLegal p h = true) :
    hostLegal p h' = true := by
  obtain rfl | ⟨-, r, rfl⟩ | ⟨c, call, turn⟩ := moves
  · exact legal
  · exact beginCall_legal p r
  · obtain ⟨_, issued, result⟩ := h
    obtain rfl : _ = some c := call
    obtain ⟨frame, remaining, budget, -⟩ := hostLegal_calling.1 legal
    obtain ⟨spent, -⟩ | ⟨left, read, hleft, rfl⟩ := turn
    · omega
    · obtain ⟨r, ended⟩ | ⟨more, goesOn⟩ := afterAttempt_cases c left issued read
      · exact ended ▸ hostLegal_idle.2 (by omega)
      · exact goesOn ▸ hostLegal_calling.2 ⟨frame, Nat.pos_of_ne_zero more, by dsimp only; omega, rfl⟩

/-- A state is legal when its three parts are. -/
theorem inv_iff {s : State} : s.Inv ↔
    indLegal s.params s.ind = true ∧ levLegal s.params s.lev = true ∧ hostLegal s.params s.host = true := by
  simp [State.Inv, State.legal, and_assoc]

/-- Settles O43: the power-up values of the two devices are legal, and so is a host in no call. -/
theorem legalStateAtReset : Obligations.LegalStateAtReset :=
  inv_iff.2 ⟨indLegal_powerUp _, levLegal_powerUp _, hostLegal_idle.2 (Nat.zero_le _)⟩

/-- Settles O44: each part of the state after a step is legal. -/
theorem everyStepKeepsLegalState : Obligations.EveryStepKeepsLegalState := by
  intro s t legal h
  obtain ⟨indOk, levOk, hostOk⟩ := inv_iff.1 legal
  have parts := StepParts.of_step h
  rw [inv_iff, parts.params, parts.ind, parts.lev]
  exact ⟨nextInd_legal indOk, nextLev_legal levOk, parts.host.legal hostOk⟩

end Sys2Proof.Machine
end

section
/-! PROOF. The statements over every step of the machine: who writes a register, that the devices share no state, that no
event is lost, and that nothing is fatal. -/

namespace Sys2Proof.Machine

open Sys2Proof.Claims

/-- A tick never commits the status that is held (R172). -/
theorem committedAt_ne {q : Pattern} {d : LeverState} {st : LeverStatus} (h : committedAt q d = some st) :
    st ≠ d.status := by
  unfold committedAt at h
  split at h
  · exact of_decide_eq_true (Option.mem_filter_iff.1 h).2
  · cases h

/-- A lever tick that changes the status asserts the line (R173). -/
theorem levTick_attn_of_status_ne {p : Params} {pins : Pins} {d : LeverState}
    (changed : (levTick p pins d).status ≠ d.status) : (levTick p pins d).attn = true := by
  rw [levTick_eq] at changed ⊢
  cases h : committedAt (samplePins pins) d with
  | none => simp [h] at changed
  | some st => rfl

/-- A lever tick that asserts a released line changes the status (R173). -/
theorem levTick_status_ne_of_rises {p : Params} {pins : Pins} {d : LeverState} (released : d.attn = false)
    (rises : (levTick p pins d).attn = true) : (levTick p pins d).status ≠ d.status := by
  rw [levTick_eq] at rises ⊢
  cases h : committedAt (samplePins pins) d with
  | none => simp [h, attnCountdown_of_released _ released, released] at rises
  | some st => exact committedAt_ne h

/-- Settles O38: no command and no power loss asserts the line. -/
theorem attentionRisesOnCommittedChangeOnly : Obligations.AttentionRisesOnCommittedChangeOnly := by
  intro s t h
  rw [(StepParts.of_step h).lev]
  refine ⟨fun released rises => ?_, fun tick changed => ?_⟩
  · obtain ⟨tick, next⟩ | ⟨-, next⟩ | ⟨i, -, next⟩ | next := nextLev_cases s <;> rw [next] at rises ⊢
    · exact ⟨tick, levTick_status_ne_of_rises released rises⟩
    · cases rises
    · obtain ⟨keeps, -⟩ | ⟨-, -, clears, -⟩ := i.levAfter_attn s.lev
      · simp [keeps, released] at rises
      · simp [clears] at rises
    · simp [released] at rises
  · have next : s.nextLev = levTick s.params s.pins s.lev := by simp [State.nextLev, tick]
    rw [next] at changed ⊢
    exact levTick_attn_of_status_ne changed

/-- Settles O45: a step answers none only where its event delivers a byte to an absent address. -/
theorem nothingIsFatal : Obligations.NothingIsFatal := by
  intro s
  obtain ⟨t, h, -⟩ | ⟨a, b, delivered, notInd, notLev, refused⟩ := step_cases s
  · exact .inl ⟨t, h⟩
  · exact .inr ⟨a, b, delivered, notInd, notLev, refused⟩

/-- Settles O46: a step leaves the events that `State.takeEvent` leaves. -/
theorem eventsAreNeitherLostNorMerged : Obligations.EventsAreNeitherLostNorMerged := by
  refine ⟨fun s t h => ?_, fun s empty => ?_⟩
  · have parts := StepParts.of_step h
    refine ⟨parts.params, fun e rest scheduled => ?_⟩
    rw [parts.schedule, parts.draws, takeEvent_of_schedule scheduled]
    exact ⟨rfl, rfl⟩
  · rw [step_eq, takeEvent_of_empty empty]
    rfl

/-- Settles O47: what a delivered command can write is said per register. -/
theorem indicatorRegisterWriters : Obligations.IndicatorRegisterWriters := by
  intro s t h
  rw [(StepParts.of_step h).ind]
  obtain ⟨tick, next⟩ | ⟨power, -⟩ | ⟨i, command, next⟩ | next := nextInd_cases s
  · obtain ⟨color, blink⟩ := indTick_keeps s.params s.ind
    rw [next]
    refine ⟨by simp [color, blink], fun _ => .inl tick, fun outEn => .inr (.inr (.inl ⟨?_, tick⟩))⟩
    cases redrive : s.params.indRedrive with
    | onSetState => simp [indTick, outEnAfterTick, redrive] at outEn
    | onTick => rfl
  · simp [power]
  · rw [next]
    obtain ⟨phase, count, out⟩ := i.indAfter_keeps s.params s.ind
    refine ⟨fun written => .inl ?_, by simp [phase, count, out], fun written => ?_⟩
    · obtain ⟨color, blink⟩ | ⟨blink, color, rfl⟩ := i.indAfter_color_blink s.params s.ind
      · simp [color, blink] at written
      · exact ⟨blink, color, command⟩
    · obtain keeps | ⟨data, rfl⟩ | ⟨redrive, blink, color, rfl⟩ := i.indAfter_outEn s.params s.ind
      · exact absurd keeps written
      · exact .inl ⟨data, command⟩
      · exact .inr (.inl ⟨redrive, blink, color, command⟩)
  · simp [next]

/-- Settles O48: what a delivered command can write is said per register. -/
theorem leverRegisterWriters : Obligations.LeverRegisterWriters := by
  intro s t h
  rw [(StepParts.of_step h).lev]
  obtain ⟨tick, -⟩ | ⟨power, -⟩ | ⟨i, command, next⟩ | next := nextLev_cases s
  · simp [tick]
  · simp [power]
  · rw [next]
    obtain ⟨latch, count⟩ := i.levAfter_keeps s.lev
    refine ⟨fun written => .inl ?_, by simp [latch, count], fun written => .inl ?_⟩
    · obtain keeps | ⟨value, rfl⟩ := i.levAfter_status s.lev
      · exact absurd keeps written
      · exact ⟨value, command⟩
    · obtain ⟨attn, timer⟩ | ⟨data, rfl, -⟩ := i.levAfter_attn s.lev
      · simp [attn, timer] at written
      · exact ⟨data, command⟩
  · simp [next]

/-- The event and the command of a step depend on the host and on the events to come alone. -/
theorem takeEvent_deliveredInstr_congr {s₁ s₂ : State} (host : s₁.host = s₂.host) (schedule : s₁.schedule = s₂.schedule)
    (draws : s₁.draws = s₂.draws) :
    s₁.takeEvent.1 = s₂.takeEvent.1 ∧ (∀ e, delivers e s₁ = delivers e s₂) ∧ s₁.deliveredInstr = s₂.deliveredInstr := by
  have event : s₁.takeEvent.1 = s₂.takeEvent.1 := by
    simp only [State.takeEvent, schedule, draws]
    split <;> rfl
  have bytes (e : Event) : delivers e s₁ = delivers e s₂ := by
    cases e <;> simp [delivers, host]
  exact ⟨event, bytes, by simp only [State.deliveredInstr, event, bytes]⟩

/-- Settles O49: the event and the command are the same in both machines, and so is what they make of the device. -/
theorem devicesDoNotInterfere : Obligations.DevicesDoNotInterfere := by
  intro s₁ s₂ t₁ t₂ params host schedule draws h₁ h₂
  obtain ⟨event, bytes, command⟩ := takeEvent_deliveredInstr_congr host schedule draws
  have parts₁ := StepParts.of_step h₁
  have parts₂ := StepParts.of_step h₂
  refine ⟨fun ind => ⟨?_, fun b delivered => ?_⟩, fun lev pins => ⟨?_, ?_, fun b delivered => ?_⟩⟩
  · rw [parts₁.ind, parts₂.ind]
    simp only [State.nextInd, event, command, params, ind]
  · rw [parts₁.reply .ind b delivered,
      parts₂.reply .ind b (by rw [← event, ← bytes]; exact delivered)]
    exact afterFrame_ind_reply_congr b (by rw [ind]) (by rw [ind])
  · rw [parts₁.lev, parts₂.lev]
    simp only [State.nextLev, event, command, params, lev, pins]
  · rw [parts₁.pins, parts₂.pins]
    simp only [State.nextPins, event, pins]
  · rw [parts₁.reply .lev b delivered,
      parts₂.reply .lev b (by rw [← event, ← bytes]; exact delivered)]
    exact afterFrame_lev_reply_congr b (by rw [lev])

end Sys2Proof.Machine
end

section
/-! PROOF. Runs of the host's turns (45_host_transport.md). A turn of a host in a call to a device is a frame step of that
device with the host's state written as the pair read makes it; a run of turns whose replies are not accepted spends the attempts of
the call, and the last one ends it. -/

namespace Sys2Proof.Machine

open Sys2Proof.Claims

/-- The reply pair of a frame step is complementary (R82). -/
theorem afterFrame_reply_complement (dev : Device) (b : Byte) (s : State) :
    ∃ st, (afterFrame dev b s).reply = some (packResponse st) := by
  unfold afterFrame
  cases decodeInstr dev b with
  | ok i => exact ⟨_, rfl⟩
  | error e => exact ⟨0x00#8, congrArg some packResponse_zero.symm⟩

/-- A run that begins with a turn of a host in a call to a device, with an attempt left (R202, R209). -/
theorem runEvents_attempt {s : State} {c : HostCall} {left : Nat} {dev : Device} (call : s.host.call = some c)
    (remaining : c.attemptsRemaining = left + 1) (ha : c.addr = dev.address) (r : Request) (n : Noise) (es : List Event) :
    runEvents (.host r n :: es) s = runEvents es ((afterFrame dev (c.frame ^^^ n.frame) s).setHost
      (afterAttempt c left s.host.issued ((afterFrame dev (c.frame ^^^ n.frame) s).reply.map (corruptReply n)))) := by
  refine runEvents_cons ?_
  simp only [perform, hostTurn, call, attempt, remaining, transact, ha, ofAddress_eq_some.2 rfl, serveFrame_eq, afterFrame]
  cases decodeInstr dev (c.frame ^^^ n.frame) <;> rfl

/-- An attempt whose reply is not accepted ends the call Exhausted if it was the last, and else leaves the call with the
other attempts (R204). -/
theorem afterAttempt_of_rejected {read : Reply} (h : acceptReply read = none) (c : HostCall) (left issued : Nat) :
    afterAttempt c left issued (some read) =
      if left = 0 then ⟨none, issued + 1, some .exhausted⟩
      else ⟨some { c with attemptsRemaining := left }, issued + 1, none⟩ := by
  simp only [afterAttempt, Option.bind_some, h]

/-- A reply is not accepted exactly when its bytes are not complementary or its status is the sentinel (R203). -/
theorem acceptReply_eq_none {r : Reply} : acceptReply r = none ↔ ¬(r.byte1 = ~~~r.byte0 ∧ r.byte0 ≠ 0x00#8) := by
  rw [Option.eq_none_iff_forall_ne_some]
  simp only [ne_eq, acceptReply_eq_some]
  constructor
  · exact fun h ⟨complement, nonzero⟩ => h _ ⟨complement, nonzero, rfl⟩
  · exact fun h st ⟨complement, nonzero, _⟩ => h ⟨complement, nonzero⟩

/-- Settles O54: such an attempt is one frame step, and the invariant counts the attempts. -/
theorem unacceptedReplySpendsOneAttempt : Obligations.UnacceptedReplySpendsOneAttempt := by
  intro s r n c legal call ha
  obtain ⟨-, -, hostOk⟩ := inv_iff.1 legal
  have calling : s.host = ⟨some c, s.host.issued, s.host.result⟩ := by rw [← call]
  obtain ⟨-, one_le, budget, -⟩ := hostLegal_calling.1 (calling ▸ hostOk)
  obtain ⟨left, remaining⟩ := Nat.exists_eq_add_of_le' one_le
  obtain ⟨t, reply, hreply, run⟩ := runEvents_host_of_calling call remaining ha r n []
  refine ⟨_, reply, run, hreply, fun rejected => ?_⟩
  have spent := afterAttempt_of_rejected (read := corruptReply n reply) (acceptReply_eq_none.2 rejected) c left s.host.issued
  rw [setHost_host]
  by_cases last : left = 0
  · rw [if_pos last] at spent
    rw [spent]
    exact ⟨rfl, fun _ => ⟨rfl, rfl, by dsimp only; omega⟩, fun more => absurd remaining (by omega)⟩
  · rw [if_neg last] at spent
    rw [spent, remaining]
    exact ⟨rfl, fun one => absurd one (by omega), fun _ => ⟨rfl, rfl⟩⟩

/-- The device answers the frame, as the bus alters it, with a pair that is not accepted as the bus alters it (R203,
R209). -/
def Rejects (dev : Device) (frame : Byte) (n : Noise) : Prop :=
  ∀ s, ∃ reply, (afterFrame dev (frame ^^^ n.frame) s).reply = some reply ∧ acceptReply (corruptReply n reply) = none

/-- A run of attempts none of which is accepted: each issues one transaction, the call is in progress while an attempt is
left, and it ends Exhausted with the last; where no frame step of it writes the devices, they are as they were (R204). -/
theorem runEvents_rejected_attempts {s : State} {c : HostCall} {dev : Device} (r : Request) {noises : List Noise}
    (call : s.host.call = some c) (result : s.host.result = none) (ha : c.addr = dev.address)
    (rejects : ∀ n ∈ noises, Rejects dev c.frame n) (one_le : 1 ≤ c.attemptsRemaining)
    (enough : noises.length ≤ c.attemptsRemaining) :
    ∃ t, runEvents (noises.map (.host r)) s = .next t ∧ t.host.issued = s.host.issued + noises.length
      ∧ (noises.length < c.attemptsRemaining → t.host.call.isSome = true ∧ t.host.result = none)
      ∧ (noises.length = c.attemptsRemaining → t.host.call = none ∧ t.host.result = some .exhausted)
      ∧ ((∀ n ∈ noises, ∀ s, (afterFrame dev (c.frame ^^^ n.frame) s).lev = s.lev
            ∧ (afterFrame dev (c.frame ^^^ n.frame) s).ind = s.ind) → t.lev = s.lev ∧ t.ind = s.ind) := by
  induction noises generalizing s c with
  | nil => exact ⟨s, rfl, rfl, fun _ => ⟨by simp [call], result⟩, fun h => absurd h (by simp; omega), fun _ => ⟨rfl, rfl⟩⟩
  | cons n noises ih =>
    obtain ⟨left, remaining⟩ := Nat.exists_eq_add_of_le' one_le
    obtain ⟨rejected, rejects⟩ := List.forall_mem_cons.1 rejects
    obtain ⟨reply, hreply, rejected⟩ := rejected s
    have spent := afterAttempt_of_rejected rejected c left s.host.issued
    have run := runEvents_attempt call remaining ha r n (noises.map (.host r))
    rw [hreply, Option.map_some, spent] at run
    simp only [List.length_cons] at enough ⊢
    by_cases last : left = 0
    · obtain rfl : noises = [] := List.length_eq_zero_iff.1 (by omega)
      rw [if_pos last] at run
      refine ⟨_, run, rfl, fun more => absurd more (by simp; omega), fun _ => ⟨rfl, rfl⟩, fun keeps => ?_⟩
      exact keeps n (by simp) s
    · rw [if_neg last] at run
      obtain ⟨t, run', issued, goesOn, ends, devices⟩ := ih (c := { c with attemptsRemaining := left })
        (s := (afterFrame dev (c.frame ^^^ n.frame) s).setHost
          ⟨some { c with attemptsRemaining := left }, s.host.issued + 1, none⟩)
        rfl rfl ha rejects (Nat.pos_of_ne_zero last)
        (by dsimp only; omega)
      dsimp only at goesOn ends
      refine ⟨t, run.trans run', ?_, fun more => goesOn (by omega), fun all => ends (by omega), fun keeps => ?_⟩
      · rw [issued, setHost_host]
        dsimp only
        omega
      · obtain ⟨keep, keeps⟩ := List.forall_mem_cons.1 keeps
        obtain ⟨lev, ind⟩ := devices keeps
        exact ⟨lev.trans (keep s).1, ind.trans (keep s).2⟩

/-- A bus that flips different bits in the two bytes of every reply has every reply rejected: it leaves no complementary pair
(R106, R203). -/
theorem rejects_of_corrupted {n : Noise} (h : n.byte0 ≠ n.byte1) (dev : Device) (frame : Byte) : Rejects dev frame n := by
  intro s
  obtain ⟨st, hreply⟩ := afterFrame_reply_complement dev (frame ^^^ n.frame) s
  refine ⟨_, hreply, acceptReply_eq_none.2 fun ⟨complement, _⟩ => h ?_⟩
  have same : ~~~st ^^^ n.byte1 = ~~~st ^^^ n.byte0 := complement.trans (BitVec.not_xor_left ..)
  exact ((BitVec.xor_right_inj _).1 same).symm

/-- The call that `send` begins for a request (R202). -/
def callOf (p : Params) (r : Request) : HostCall :=
  ⟨r.addr, encodeFrame (BitVec.ofNat 3 r.command) (BitVec.ofNat 4 r.data), p.maxAttempts.val⟩

/-- A run that begins with the first lines of `send` for a request that it does not refuse (R202). -/
theorem runEvents_send {s : State} {r : Request} (idle : s.host.call = none) (allowed : sendRefuses s.params r = false)
    (n : Noise) (es : List Event) :
    runEvents (.host r n :: es) s = runEvents es (s.setHost ⟨some (callOf s.params r), 0, none⟩).clearReply := by
  obtain ⟨refused, -⟩ | ⟨-, begun⟩ := beginCall_cases s.params r
  · simp [allowed] at refused
  · rw [runEvents_host_of_idle idle, begun, callOf]

/-- Settles O55: the call begins with the whole budget, and every reply of the run is rejected. -/
theorem exhaustedAfterExactlyMaxAttempts : Obligations.ExhaustedAfterExactlyMaxAttempts := by
  intro s req first noises idle allowed ha corrupted enough
  obtain ⟨dev, ha⟩ : ∃ dev : Device, req.addr = dev.address := ha.elim (⟨.ind, ·⟩) (⟨.lev, ·⟩)
  obtain ⟨t, run, issued, goesOn, ends, -⟩ := runEvents_rejected_attempts req
    (s := (s.setHost ⟨some (callOf s.params req), 0, none⟩).clearReply) rfl rfl ha
    (fun n hn => rejects_of_corrupted (corrupted n hn) dev _) s.params.maxAttempts.pos enough
  exact ⟨t, (runEvents_send idle allowed first _).trans run, issued.trans (Nat.zero_add _), goesOn, ends⟩

/-- A clean bus leaves the reply as it is (R209). -/
@[simp] theorem corruptReply_clean (r : Reply) : corruptReply clean r = r := by
  simp [corruptReply, clean]

/-- `send` refuses a request exactly if a width check fails, or the host checks lever set-status values itself and this is
one outside 1, 2 and 3 (R201, R207). -/
theorem sendRefuses_iff {p : Params} {r : Request} : sendRefuses p r = true ↔
    7 < r.command ∨ 15 < r.data ∨ (p.hostPrevalidateLeverSet = true ∧ r.addr = 0x24 ∧ r.command = 2
      ∧ ¬(1 ≤ r.data ∧ r.data ≤ 3)) := by
  have accepted : r.data = 1 ∨ r.data = 2 ∨ r.data = 3 ↔ 1 ≤ r.data ∧ r.data ≤ 3 := by omega
  rw [← accepted]
  simp [sendRefuses, Request.wellFormed, Request.commandFits, Request.dataFits, Config.levAddr, or_assoc, and_assoc]

/-- Settles O58: the two cases of the first lines of `send`. -/
theorem sendChecksThenBeginsTheCall : Obligations.SendChecksThenBeginsTheCall := by
  intro s req noise idle
  rw [runEvents_host_of_idle idle]
  obtain ⟨refused, failed⟩ | ⟨allowed, begun⟩ := beginCall_cases s.params req
  · rw [if_pos (sendRefuses_iff.1 refused), failed]
    rfl
  · rw [if_neg (sendRefuses_iff.not.1 (by simp [allowed])), begun]
    rfl

/-- Serving the frame of an instruction over a clean bus runs the instruction. -/
theorem afterFrame_encode_clean (i : Instr) (s : State) :
    afterFrame i.device (encode i ^^^ clean.frame) s = i.after s := by
  rw [show encode i ^^^ clean.frame = encode i from BitVec.xor_zero, afterFrame_of_decodeInstr (decodeInstr_encode i)]

/-- Over a clean bus the reply to a command that is not executed is rejected (R203, R222). -/
theorem rejects_of_not_executed {i : Instr} (h : i.isExecuted = false) : Rejects i.device (encode i) clean := by
  intro s
  refine ⟨notExecutedReply, ?_, by decide⟩
  rw [afterFrame_encode_clean, Instr.after_of_not_executed h, withReply_reply]

/-- A call whose command is not executed, over a clean bus, ends Exhausted with its budget, and the devices are as they were
(R204, R207). -/
theorem runEvents_send_not_executed {s : State} {r : Request} {i : Instr} (idle : s.host.call = none)
    (allowed : sendRefuses s.params r = false) (ha : r.addr = i.device.address)
    (frame : (callOf s.params r).frame = encode i) (rejected : i.isExecuted = false) :
    ∃ t, runEvents (List.replicate (s.params.maxAttempts.val + 1) (.host r clean)) s = .next t
      ∧ t.host.result = some .exhausted ∧ t.host.issued = s.params.maxAttempts.val ∧ t.host.call = none
      ∧ t.lev = s.lev ∧ t.ind = s.ind := by
  have rejects : ∀ n ∈ List.replicate s.params.maxAttempts.val clean, Rejects i.device (callOf s.params r).frame n := by
    intro n hn
    rw [List.eq_of_mem_replicate hn, frame]
    exact rejects_of_not_executed rejected
  obtain ⟨t, run, issued, -, ends, devices⟩ := runEvents_rejected_attempts r
    (s := (s.setHost ⟨some (callOf s.params r), 0, none⟩).clearReply) rfl rfl ha rejects s.params.maxAttempts.pos
    (List.length_replicate ..).le
  obtain ⟨lev, ind⟩ := devices fun n hn u => by
    rw [List.eq_of_mem_replicate hn, frame, afterFrame_encode_clean, Instr.after_of_not_executed rejected]
    exact ⟨rfl, rfl⟩
  rw [List.length_replicate] at issued ends
  obtain ⟨call, result⟩ := ends rfl
  rw [List.map_replicate] at run
  exact ⟨t, (runEvents_send idle allowed clean _).trans run, result, issued.trans (Nat.zero_add _), call, lev, ind⟩

/-- Settles O56: the device does not execute the command at any attempt. -/
theorem rejectedLeverSetExhausts : Obligations.RejectedLeverSetExhausts := by
  intro s data idle unchecked fits outside
  have allowed : sendRefuses s.params ⟨0x24, 2, data⟩ = false := by
    rw [← Bool.not_eq_true, sendRefuses_iff]
    simp [unchecked, fits]
  have rejected : (Instr.levSet (BitVec.ofNat 4 data)).isExecuted = false := by
    have value : (BitVec.ofNat 4 data).toNat = data := Nat.mod_eq_of_lt (by omega)
    have named : statusOfValue (BitVec.ofNat 4 data) = none := statusOfValue_eq_none_iff.2 (by rwa [value])
    simp [Instr.isExecuted, named]
  have frame : (callOf s.params ⟨0x24, 2, data⟩).frame = encode (.levSet (BitVec.ofNat 4 data)) := rfl
  exact runEvents_send_not_executed idle allowed rfl frame rejected

/-- A call whose command is executed, over a clean bus, ends with the status of its first reply (R202, R203). -/
theorem runEvents_send_executed {s : State} {r : Request} {i : Instr} (idle : s.host.call = none)
    (allowed : sendRefuses s.params r = false) (ha : r.addr = i.device.address)
    (frame : (callOf s.params r).frame = encode i) (executed : i.isExecuted = true) (es : List Event) :
    runEvents (.host r clean :: .host r clean :: es) s = runEvents es ((i.after s).setHost
      ⟨none, 1, some (.ok (i.status (i.indAfter s.params s.ind) (i.levAfter s.lev)))⟩) := by
  obtain ⟨left, budget⟩ := Nat.exists_eq_add_of_le' s.params.maxAttempts.pos
  have accepted : acceptReply (packResponse (i.status (i.indAfter s.params s.ind) (i.levAfter s.lev)))
      = some (i.status (i.indAfter s.params s.ind) (i.levAfter s.lev)) :=
    acceptReply_eq_some.2 ⟨rfl, by simp [packResponse, i.status_eq_zero_iff, executed], rfl⟩
  have ended : afterAttempt (callOf s.params r) left 0 ((i.after s).reply.map (corruptReply clean))
      = ⟨none, 1, some (.ok (i.status (i.indAfter s.params s.ind) (i.levAfter s.lev)))⟩ := by
    rw [Instr.after, Option.map_some, corruptReply_clean]
    exact afterAttempt_of_accepted accepted ..
  rw [runEvents_send idle allowed, runEvents_attempt (c := callOf s.params r) rfl budget ha, frame,
    afterFrame_encode_clean, ← ended]
  rfl

/-- Settles O57: the second call replies the status byte of the colour and the blink flag that the first has written. -/
theorem setThenGetEndToEnd : Obligations.SetThenGetEndToEnd := by
  intro s idle
  have allowed (p : Params) : sendRefuses p ⟨0x20, 2, 2⟩ = false ∧ sendRefuses p ⟨0x20, 1, 0⟩ = false := by
    simp [← Bool.not_eq_true, sendRefuses_iff]
  have setFrame (p : Params) : (callOf p ⟨0x20, 2, 2⟩).frame = encode (.indSet false 2#3) :=
    (by decide : encodeFrame 2#3 2#4 = encode (.indSet false 2#3))
  have getFrame (p : Params) : (callOf p ⟨0x20, 1, 0⟩).frame = encode (.indGet 0#4) := rfl
  rw [runEvents_send_executed (i := .indSet false 2#3) idle (allowed _).1 rfl (setFrame _) rfl,
    runEvents_send_executed (i := .indGet 0#4) rfl (allowed _).2 rfl (getFrame _) rfl]
  have reported := indStatusByte_eq ((Instr.indSet false 2#3).after s).ind
  exact ⟨_, indStatus false 2#3, rfl, congrArg (some <| SendResult.ok ·) reported, by decide, by decide⟩

end Sys2Proof.Machine
end

section
/-! PROOF. Single events of the environment, power-up and power loss, the output lines, and the order of a tick and a
frame. -/

namespace Sys2Proof.Machine

open Sys2Proof.Claims

/-- A run of one change of the lines (R39). -/
theorem runEvents_one_pins (s : State) (openN closedN : Bool) :
    runEvents [.pins openN closedN] s = .next { s with pins := ⟨openN, closedN⟩, reply := none } := by
  rw [runEvents_pins]
  rfl

/-- Settles O40: each change writes the lines alone, so the change back restores them. -/
theorem pulseBetweenTicksLeavesNoTrace : Obligations.PulseBetweenTicksLeavesNoTrace := by
  intro s openN closedN
  refine ⟨runEvents_one_pins s openN closedN, ?_⟩
  rw [runEvents_pins, runEvents_one_pins]
  rfl

/-- Settles O41: the fields of `State.powerUp`, read off. -/
theorem powerUpValues : Obligations.PowerUpValues := ⟨rfl, rfl, rfl, rfl, rfl⟩

/-- A run that begins with a power loss of a device (R238). -/
theorem runEvents_powerCycle (dev : Device) (es : List Event) (s : State) :
    runEvents (.powerCycle dev :: es) s = runEvents es (powerCycle dev s).clearReply :=
  runEvents_cons (by cases dev <;> rfl)

/-- Settles O42: a power loss writes the power-up values of its device. -/
theorem powerCycleRestoresPowerUp : Obligations.PowerCycleRestoresPowerUp := fun s =>
  ⟨runEvents_powerCycle .ind [] s, runEvents_powerCycle .lev [] s⟩

/-- Settles O51: the lines are functions of the enable bit, in its two cases. -/
theorem outputLinesFollowState : Obligations.OutputLinesFollowState := by
  refine ⟨fun p d => ⟨fun enabled => ?_, fun disabled => ?_⟩, fun d => ⟨fun asserted => ?_, fun released => ?_⟩⟩
  · simp [indLines, enabled, colorPins]
  · simp [indLines, disabled]
  · simp [attnLine, asserted]
  · simp [attnLine, released]

/-- A command and then a tick of its device. -/
theorem runEvents_command_tick (i : Instr) (s : State) :
    runEvents [.transaction i.device.address (encode i), .tick i.device] s
      = .next (tickDevice i.device (i.after s)).clearReply := by
  rw [runEvents_command, runEvents_tick]
  rfl

/-- A tick of a command's device and then the command. -/
theorem runEvents_tick_command (i : Instr) (s : State) :
    runEvents [.tick i.device, .transaction i.device.address (encode i)] s
      = .next (i.after (tickDevice i.device s).clearReply) := by
  rw [runEvents_tick, runEvents_command]
  rfl

/-- Settles O50: IND.GET writes no register and a tick keeps the colour and the blink flag; IND.SET before a tick shows on
the output at once, and after it does not: at reset, 1 and 0. -/
theorem tickAndFrameOrder : Obligations.TickAndFrameOrder := by
  refine ⟨fun data s => ?_, State.reset, _, _, runEvents_command_tick (.indSet false 1#3) _,
    runEvents_tick_command (.indSet false 1#3) _, ?_⟩
  · have sameStatus : indStatusByte s.ind = indStatusByte (indTick s.params s.ind) := by
      rw [indStatusByte_eq, indStatusByte_eq]
      rfl
    exact ⟨_, _, _, _, exec_eq .., exec_eq .., congrArg (some <| packResponse ·) sameStatus,
      runEvents_command_tick (.indGet data) s, runEvents_tick_command (.indGet data) s, rfl⟩
  · have setFirst : (indTick Config.hardware ((Instr.indSet false 1#3).after State.reset).ind).ledOut = 1#3 := by
      rw [indTick_ledOut]
      exact if_neg (by simp [Instr.after, Instr.indAfter, Machine.indSet])
    have tickFirst : (indTick Config.hardware State.reset.ind).ledOut = 0#3 := by
      rw [indTick_ledOut]
      exact if_neg (by simp [State.reset, State.powerUp, IndicatorState.powerUp])
    intro same
    have outputs : (1#3 : Color) = 0#3 := setFirst.symm.trans (same.trans tickFirst)
    exact absurd outputs (by decide)

end Sys2Proof.Machine
end
